-- ==== Sys2Proof/Word.lean ====
section
/-! DEFINITION. The words the manual itself treats as bits: the bytes and two-byte fields of the wire frames (R192). -/

namespace Sys2Proof

/-- One byte of a request or response frame. -/
abbrev Byte := BitVec 8

/-- A two-byte field of a frame, already joined low byte first (R192). -/
abbrev Half := BitVec 16

end Sys2Proof
end

