-- ==== Sys2Proof/Config.lean ====
section
/-! DEFINITION. The figures the manual fixes for the part, under the names its rules use, and the one value it leaves open. -/

namespace Sys2Proof.Config

/-- The watts kept back for the fan (60), the light (25) and the pumps (30) (R113). -/
def reserveW : Nat := 115

/-- Seconds the idle timer is set to (R165, R168). -/
def idleSeconds : Nat := 600

/-- The PREHEAT limit in seconds of step elapsed (R30). -/
def preheatLimit : Nat := 2700

/-- The KEEP_WARM limit in seconds of step elapsed (R35). -/
def keepWarmLimit : Nat := 1800

/-- The SOAK duration in seconds of step elapsed (R148). -/
def soakSeconds : Nat := 1200

/-- The FLUSH hold in seconds (R147). -/
def flushHoldSeconds : Nat := 60

/-- The door-held limit (R37). -/
def doorHeldLimit : Nat := 300

/-- The pause limit (R40), also the hold limit of a prompt (R57). -/
def pauseLimit : Nat := 3600

/-- The duration override an EXTEND return sets (R61). -/
def extendSeconds : Nat := 300

/-- Flow meter pulses at which a fill attempt fails on volume: 400 mL at 2 pulses per mL (R125). -/
def fillPulseLimit : Nat := 800

/-- Entries of the recipe library, and how many of them are factory slots (R172). -/
def librarySlots : Nat := 24
def factorySlots : Nat := 8

/-- Step slots of the program table (R1). -/
def programSlots : Nat := 16

/-- FREE VALUE (log entry 3). The two bytes GET_SENSORS carries for a reference count of 65,536 or more: R82 reports the
count, R192 gives a count two bytes, and the manual states no result for a count that they cannot hold. -/
opaque wideCountField : Nat → Half

end Sys2Proof.Config
end

