-- ==== Sys2Proof/Syntax.lean ====
section
/-! DEFINITION. The commands and events of spec/opcode_table.json, one constructor a row, each with the operands its rule gives
it. A command carries the port it came in on and its parameters as they stand on the wire (R192, 12.6). -/

namespace Sys2Proof

/-- The three master ports (R182). -/
inductive Port where
  | panel | link | service
deriving DecidableEq, Repr

/-- Tank level input (7.1). -/
inductive TankLevel where
  | low | ok
deriving DecidableEq, Repr

/-- Boiler level electrode (7.1). -/
inductive BoilerLevel where
  | wet | dry
deriving DecidableEq, Repr

/-- The level inputs of the part, as they stand (Oven hardware connected to the part). -/
structure Pins where
  doorOpen : Bool
  tankPresent : Bool
  tankLevel : TankLevel
  boilerLevel : BoilerLevel
deriving DecidableEq, Repr

/-- One guard entry of a step record on the wire (R193); t2 is -32,768 where it is absent. -/
structure GuardWire where
  sensor : Byte
  option : Byte
  t1 : Half
  t2 : Half
deriving DecidableEq, Repr

/-- A step record on the wire: the 13-byte head and the guard entries received (R193). -/
structure StepWire where
  kind : Byte
  parts : Byte
  mode : Byte
  setpoint : Half
  steam : Byte
  fan : Byte
  duration : Half
  promptKind : Byte
  timeout : Half
  action : Byte
  guards : List GuardWire
deriving DecidableEq, Repr

/-- The counts one measurement round takes over its gates (R65, R79). -/
structure RoundCounts where
  refA : Nat
  refB : Nat
  cav : Nat
  vent : Nat
  probe : Nat
  boil : Nat
  pulses : Nat
deriving DecidableEq, Repr

/-- Every step of the part: the commands of the three ports, the port unit's own two events, the resets, the changes of the
inputs, and the timed and internal events of the blocks. -/
inductive Instr where
  -- reading commands
  | getStatus (p : Port)
  | getRun (p : Port)
  | getStep (p : Port) (index : Byte)
  | getSensors (p : Port)
  | getLoads (p : Port)
  | getWater (p : Port)
  | getFault (p : Port)
  | getPrompts (p : Port)
  | getNotices (p : Port)
  | recipeRead (p : Port) (slot part : Byte)
  -- program commands
  | programPutStep (p : Port) (index : Byte) (record : StepWire)
  | programClear (p : Port)
  | programLoad (p : Port) (slot : Byte)
  -- run commands
  | start (p : Port) (options : Byte)
  | pause (p : Port)
  | resume (p : Port)
  | stop (p : Port)
  | adjust (p : Port) (index field : Byte) (value : Half)
  | skip (p : Port) (index : Byte)
  | optSet (p : Port) (options : Byte)
  | optClear (p : Port) (options : Byte)
  | optToggle (p : Port) (options : Byte)
  | answer (p : Port) (id ans : Byte)
  | consentArm (p : Port)
  | consentDrop (p : Port)
  -- maintenance and setting commands
  | clearFault (p : Port)
  | descaleStart (p : Port)
  | rinseStart (p : Port)
  | setHardness (p : Port) (hardness : Half)
  | setBudget (p : Port) (mode : Byte) (floor : Half) (manual : Option Half)
  | standby (p : Port)
  | reset (p : Port)
  | recipeStore (p : Port) (slot category : Byte) (name : List Byte)
  | recipeErase (p : Port) (slot : Byte)
  | elementConfig (p : Port) (entry : Byte) (ratedW : Half) (enabled rampStep : Byte)
  | setSupply (p : Port) (limit : Half) (volts scan : Byte)
  | setCal (p : Port) (channel offset : Byte)
  | scaleSet (p : Port) (mg : Half)
  | setScaleLimit (p : Port) (mg : Half)
  | setFillRetries (p : Port) (retries : Byte)
  -- the port unit's own events: a frame that fails the form checks, with the bytes the master clocked, and a discarded write
  | formCheckFailure (p : Port) (bytes : List Byte)
  | writeDiscard (p : Port)
  -- resets; at the application of supply the inputs are read as they stand
  | powerOnReset (pins : Pins)
  | lineReset
  -- changes of the inputs
  | doorOpens
  | doorCloses
  | tankChange (present : Bool) (level : TankLevel)
  | boilerLevelChange (level : BoilerLevel)
  -- water operation
  | flowPulse
  | fillVolumeLimit
  | fillTimeLimit
  | verifyEnd
  | retryWaitEnd
  | tankWaitEnd
  | drainPassEnd
  | fillFailed
  | drainFailed
  -- run timers
  | runSecondTick
  | preheatTimeout
  | cookDurationEnd
  | restEnd
  | soakEnd
  | flushHoldEnd
  | keepWarmEnd
  | doorHeldLimit
  | pauseTimeout
  | promptCountdown (id : Nat)
  | promptTimeout (id : Nat)
  -- measurement rounds and the blocks that act on them
  | roundBegin
  | roundComplete (counts : RoundCounts)
  | roundRunJudgement
  | probeSensorClosure
  | faultRoundTest
  | budgetRecompute
  | drainCoolTest
  | modeRoundUpdate
  | idleTimeout
  -- slots and frames
  | slotStart
  | frameComplete
  -- completions of non-volatile writes, with the outcome of the read-back check
  | storeWriteComplete (pass : Bool)
  | saveComplete (pass : Bool)
  | idleTimerCountdown
deriving DecidableEq, Repr

end Sys2Proof
end

