-- ==== Sys2Proof/Machine/State.lean ====
section
/-! DEFINITION. The state of the part, block by block (00_scope, Block overview), the reasons a step could stop, and the state
after a power-on reset. Plain data throughout. -/

namespace Sys2Proof.Machine

/-! ### Small collections -/

/-- One item for each port. -/
structure PerPort (α : Type) where
  panel : α
  link : α
  service : α
deriving DecidableEq, Repr

/-- One item for each rotation entry, in position order (R101). -/
structure PerLoad (α : Type) where
  ring : α
  top : α
  bottom : α
  grill : α
  boiler : α
deriving DecidableEq, Repr

/-- One item for each temperature channel (R64). -/
structure PerChannel (α : Type) where
  cav : α
  vent : α
  probe : α
  boil : α
deriving DecidableEq, Repr

/-! ### Enumerated values -/

/-- Heating modes (R18). -/
inductive HeatMode where
  | convect | topBottom | bottom | grill | grillFan | steam | combi
deriving DecidableEq, Repr

/-- Temperature channels (R64), also the sensors of guards. -/
inductive Channel where
  | cav | vent | probe | boil
deriving DecidableEq, Repr

/-- Rotation entries (R101). -/
inductive Load where
  | ring | top | bottom | grill | boiler
deriving DecidableEq, Repr

/-- What a guard tests, with its temperatures (R10); near carries its tolerance. -/
inductive GuardTest where
  | atMost (t1 : Int)
  | atLeast (t1 : Int)
  | near (t1 tolerance : Int)
  | inside (t1 t2 : Int)
  | outside (t1 t2 : Int)
deriving DecidableEq, Repr

/-- One guard entry of a COOK step (1.3). -/
structure Guard where
  sensor : Channel
  test : GuardTest
deriving DecidableEq, Repr

/-- Timeout action of a prompt (R8): CONTINUE or END_RUN. -/
inductive TimeoutAction where
  | goOn | endRun
deriving DecidableEq, Repr

/-- Prompt kinds (R52). -/
inductive PromptKind where
  | addFood | turnFood | insertProbe | checkDoneness | refillTank | pourAgent | rinseTank
deriving DecidableEq, Repr

/-- The sources of prompts (R49). -/
inductive PromptSource where
  | step | probe | water
deriving DecidableEq, Repr

/-- Answers of a port (R52). -/
inductive Answer where
  | confirm | decline | extend
deriving DecidableEq, Repr

/-- Outcomes of a closure (R55). -/
inductive PromptOutcome where
  | confirm | decline | extend | timeout | withdrawn
deriving DecidableEq, Repr

/-- Who closed a prompt (R55). -/
inductive AnsweredBy where
  | panel | link | service | sensor | nobody
deriving DecidableEq, Repr

/-- Run kinds (R20). -/
inductive RunKind where
  | none | cook | descale | rinse
deriving DecidableEq, Repr

/-- Run states (2.2). -/
inductive RunState where
  | idle | preparing | running | doorHeld | paused | ended
deriving DecidableEq, Repr

/-- Phases of a run (R20). -/
inductive Phase where
  | steps | keepWarm
deriving DecidableEq, Repr

/-- End causes (R20). -/
inductive EndCause where
  | completed | stopped | fault | pauseTimeout | promptTimeout | declined | reset
deriving DecidableEq, Repr

/-- Parts of a FLUSH step (R147). -/
inductive FlushPart where
  | fill | hold | drain
deriving DecidableEq, Repr

/-- Steps of the built-in programs (R141). -/
inductive BuiltinStep where
  | drain
  | prompt (kind : PromptKind)
  | fill
  | soak
  | flush
deriving DecidableEq, Repr

/-- Notice kinds (12.4). -/
inductive Notice where
  | runChanged | stepAdvanced | promptRaised | promptClosed | faultEntered | waterChanged | steamWithheld
  | sensorChanged | optionsChanged | modeChanged | storeDone
deriving DecidableEq, Repr

/-- Status codes (R187). -/
inductive Status where
  | ok | clamped | accepted | unknownCommand | length | notPermitted | range | busy | stale | index | empty | corrupt
  | isProtected | storeBusy | faultHold | rinseRequired | consentRequired | doorOpen | conditionPresent | invalidStep
  | invalidAnswer | notDue | noRequest
deriving DecidableEq, Repr

/-- Conditions of a channel (R64). -/
inductive Condition where
  | none | valid | opened | short | reference
deriving DecidableEq, Repr

/-- Steam condition of a frame (R99). -/
inductive SteamCondition where
  | notSteaming | admitted | withheld
deriving DecidableEq, Repr

/-- Budget modes (R113). -/
inductive BudgetMode where
  | adaptive | manual
deriving DecidableEq, Repr

/-- States of the water operation (7.2). The fill attempt number is a field of its own; waitTank carries whether the 30 s wait
after a CONFIRM is running (R62), draining whether it is in its second pass (R133). -/
inductive WaterOp where
  | idle
  | filling
  | verifying
  | retryWait
  | waitTank (thirtySeconds : Bool)
  | drainWaitCool
  | draining (secondPass : Bool)
deriving DecidableEq, Repr

/-- Whom the water operation serves (R123). -/
inductive Purpose where
  | none | cook | step | afterRun
deriving DecidableEq, Repr

/-- Scale states (R135). -/
inductive ScaleState where
  | clear | warn | block
deriving DecidableEq, Repr

/-- Fault kinds (R155). -/
inductive FaultKind where
  | reference | cavityOvertemp | cavitySensor | boilerOvertemp | boilerSensor | fillFailed | drainFailed
deriving DecidableEq, Repr

/-- Appliance modes (10). -/
inductive ApplianceMode where
  | standby | ready | active | afterRun
deriving DecidableEq, Repr

/-- Cooling states of AFTER_RUN (R165). -/
inductive Cooling where
  | cooling | cooled
deriving DecidableEq, Repr

/-- Last reset causes (R165). -/
inductive ResetCause where
  | powerOn | line | command
deriving DecidableEq, Repr

/-- Recipe categories (R173). -/
inductive Category where
  | bake | roast | steam | combi | reheat | proof
deriving DecidableEq, Repr

/-- Fields ADJUST may name (R43). -/
inductive AdjustField where
  | setpoint | steam | fan | duration
deriving DecidableEq, Repr

/-! ### The program table (R1 to R9) -/

/-- The heating part and fan level of a PREHEAT or COOK record (1.2). -/
structure Heat where
  mode : HeatMode
  setpoint : Int
  steam : Nat
  fan : Nat
deriving DecidableEq, Repr

/-- A step record as stored (1.2): each kind carries its own parts and no others. -/
inductive Step where
  | preheat (heat : Heat)
  | cook (heat : Heat) (duration : Option Nat) (guards : List Guard)
  | prompt (kind : PromptKind) (timeout : Nat) (action : TimeoutAction)
  | rest (fan duration : Nat)
deriving DecidableEq, Repr

/-- Where the table's contents came from (R2). -/
inductive Origin where
  | slot (n : Nat)
  | edited
  | none
deriving DecidableEq, Repr

/-- The program table: the records at indices 0 to length-1, and the origin (R1, R2). -/
structure Program where
  steps : List Step
  origin : Origin
deriving DecidableEq, Repr

/-! ### The run controller (R20 to R22) -/

/-- The option set (R21). -/
structure Options where
  light : Bool
  keepWarm : Bool
  fastPreheat : Bool
  eco : Bool
deriving DecidableEq, Repr

/-- The run record (R20) with the FLUSH part and hold count (R147), the option set (R21) and remote consent (R22). secondDue
is the model's own: a second of step elapsed has been counted since the step's end was last settled (log entry 6). -/
structure Run where
  kind : RunKind
  state : RunState
  phase : Phase
  stepIdx : Nat
  stepElapsed : Nat
  runElapsed : Nat
  held : Option Nat
  durOverride : Option Nat
  probeDeclined : Bool
  preheatMark : Bool
  startedBy : Option Port
  endCause : Option EndCause
  flushPart : Option FlushPart
  flushHold : Nat
  secondDue : Bool
  options : Options
  consent : Bool
deriving DecidableEq, Repr

/-! ### The prompt unit (R49 to R59) -/

/-- A prompt in the list (R50). Answerable-by is fixed by the kind (R52). -/
structure Prompt where
  id : Nat
  kind : PromptKind
  source : PromptSource
  raisedAt : Nat
  timeout : Nat
  action : TimeoutAction
  remaining : Nat
deriving DecidableEq, Repr

/-- An entry of the closed-prompt history (R55). -/
structure Closed where
  id : Nat
  kind : PromptKind
  outcome : PromptOutcome
  by_ : AnsweredBy
deriving DecidableEq, Repr

/-- The prompt list oldest first, the history newest first, and the next id (R49, R51, R59). -/
structure Prompts where
  list : List Prompt
  history : List Closed
  nextId : Nat
deriving DecidableEq, Repr

/-! ### The measurement unit (R64 to R85) -/

/-- The four table temperatures of a window, oldest first (R74). -/
structure Window where
  w0 : Int
  w1 : Int
  w2 : Int
  w3 : Int
deriving DecidableEq, Repr

/-- A channel record (R64). The published value is computed from the window, the offset and probe presence (R76, R78). -/
structure ChannelRec where
  condition : Condition
  resistance : Option Nat
  window : Option Window
  newestMark : Bool
  offset : Int
deriving DecidableEq, Repr

/-- A reference's count and whether it was in range in the latest round (R68). -/
structure Reference where
  count : Nat
  inRange : Bool
deriving DecidableEq, Repr

/-- What a completed round gave for one channel: its condition and published value (R67). -/
structure Reading where
  condition : Condition
  value : Option Int
deriving DecidableEq, Repr

/-- What the budget computation reads as it stands at a round completion (R114): the budget settings, ECO of the option set, and
own W from the slot-watts record. -/
structure BudgetInputs where
  mode : BudgetMode
  limit : Nat
  floor : Nat
  manual : Option Nat
  eco : Bool
  ownW : Nat
deriving DecidableEq, Repr

/-- The latest completed round as the other blocks take it (R67, R83): the readings as published, whether it began outside
STANDBY (R81), whether the mode was not STANDBY and whether a frame using the boiler was running when it completed (R155), and
what the budget computation read at it (R114). -/
structure RoundResult where
  readings : PerChannel Reading
  beganAwake : Bool
  awake : Bool
  boilerFrame : Bool
  budget : BudgetInputs
deriving DecidableEq, Repr

/-- Which blocks have still to take the latest completed round (R67), each as an event of its own. The run controller owes its
judgement only of a round that completed while the run was in PREPARING or RUNNING, and only until it leaves that state (R11,
R27). -/
structure RoundOwed where
  judgement : Bool
  closure : Bool
  fault : Bool
  budget : Bool
  drain : Bool
  mode : Bool
deriving DecidableEq, Repr

/-- When the next round begins (R66): at once, or a number of seconds after the start of the round before it. -/
inductive RoundSchedule where
  | atOnce
  | after (seconds : Nat)
deriving DecidableEq, Repr

/-- The measurement unit. inProgress holds, for a round that has begun, whether it began outside STANDBY. -/
structure Meas where
  channels : PerChannel ChannelRec
  refA : Reference
  refB : Reference
  present : Bool
  validCount : Nat
  openCount : Nat
  pulses : Nat
  supplyW : Nat
  roundCount : Nat
  inProgress : Option Bool
  schedule : RoundSchedule
  latest : RoundResult
  owed : RoundOwed
deriving DecidableEq, Repr

/-! ### The demand unit (R86 to R100) -/

/-- The demand unit's figures of the latest frame start and the STEAM_WITHHELD mark (R93, R99). -/
structure Demand where
  requests : PerLoad Nat
  cavityDemand : Option Nat
  fanDuty : Nat
  steam : SteamCondition
  reported : Bool
  fastApplied : Bool
deriving DecidableEq, Repr

/-! ### The load scheduler (R101 to R120) -/

/-- A rotation entry (R101). slotRated is the rated W with which the slot in progress began (R107). -/
structure Entry where
  ratedW : Nat
  enabled : Bool
  rampStep : Nat
  request : Nat
  remaining : Nat
  granted : Nat
  rampBase : Nat
  on : Bool
  shortfall : Nat
  sheds : Nat
  slotRated : Nat
deriving DecidableEq, Repr

/-- The load scheduler: rotation table, frame position, slot-watts record and budget record. slotStarted says that slot number
slot has been decided; it is clear from a frame start to the slot start that follows it. measured says that a budget has been
computed from a round since the latest reset (R115). -/
structure Sched where
  entries : PerLoad Entry
  frameRunning : Bool
  slot : Nat
  slotStarted : Bool
  prevW : Nat
  curW : Nat
  limit : Nat
  mode : BudgetMode
  manual : Option Nat
  floor : Nat
  foreign : Nat
  computed : Nat
  inForce : Nat
  ecoCapped : Bool
  headroom : Nat
  measured : Bool
  volts : Nat
  scan : Bool
deriving DecidableEq, Repr

/-! ### The water unit (R121 to R140) -/

/-- The water unit: the operation record (R123), the scale account (R134), its stored settings, the rinse-owed flag (R150), a
STEP drain waiting for IDLE (R132) and how many raises of each kind the fault unit has not yet taken (R156, R157). -/
structure Water where
  op : WaterOp
  purpose : Purpose
  attempt : Option Nat
  failures : Nat
  flow : Nat
  lastFill : Option Nat
  drainPending : Bool
  steamWanted : Bool
  declineMark : Bool
  stepDrainWaiting : Bool
  fillFailedRaises : Nat
  drainFailedRaises : Nat
  account : Nat
  remainder : Nat
  savedMg : Nat
  hardness : Nat
  scaleLimit : Nat
  retries : Nat
  rinseOwed : Bool
  descaleCount : Nat
deriving DecidableEq, Repr

/-! ### The fault unit (R155 to R164) -/

/-- The capture record (R159). -/
structure Capture where
  kind : FaultKind
  runKind : RunKind
  stepIdx : Option Nat
  stepElapsed : Option Nat
  cav : Option Int
  boil : Option Int
  roundCount : Nat
deriving DecidableEq, Repr

/-- Which of the five round-sourced kinds are TRIPPED (R156). -/
structure Tripped where
  reference : Bool
  cavityOvertemp : Bool
  cavitySensor : Bool
  boilerOvertemp : Bool
  boilerSensor : Bool
deriving DecidableEq, Repr

/-- The fault unit. -/
structure FaultUnit where
  hold : Bool
  capture : Option Capture
  later : Nat
  lastLater : Option FaultKind
  tripped : Tripped
deriving DecidableEq, Repr

/-! ### The mode controller (R165 to R171) -/

/-- The mode record (R165) and the fan output (R97, R166). The light output is computed (R166). -/
structure ModeCtl where
  mode : ApplianceMode
  idle : Option Nat
  fresh : Bool
  cooling : Option Cooling
  drainOnEnd : Bool
  resetCause : ResetCause
  fanOut : Nat
deriving DecidableEq, Repr

/-! ### The store unit (R172 to R181) -/

/-- A recipe record whose checksum matches (R173). -/
structure Recipe where
  name : List Byte
  category : Category
  steps : List Step
deriving DecidableEq, Repr

/-- What a library slot holds, which is also its slot state (R172). -/
inductive Slot where
  | empty
  | valid (r : Recipe)
  | corrupt
deriving DecidableEq, Repr

/-- Configured fields of a rotation entry, as stored (R101). -/
structure EntryConfig where
  ratedW : Nat
  enabled : Bool
  rampStep : Nat
deriving DecidableEq, Repr

/-- The stored settings of the appliance record (R179). -/
structure AppRecord where
  hardness : Nat
  scaleLimit : Nat
  account : Nat
  descaleCount : Nat
  rinseOwed : Bool
  retries : Nat
  limit : Nat
  mode : BudgetMode
  manual : Option Nat
  floor : Nat
  volts : Nat
  scan : Bool
  entries : PerLoad EntryConfig
  offsets : PerChannel Int
deriving DecidableEq, Repr

/-- A write in flight (R174): a recipe store or erase with its requesting port, or a save with the values it writes and
whether it is a retry (R179). -/
inductive Flight where
  | store (slot : Nat) (r : Recipe) (p : Port)
  | erase (slot : Nat) (p : Port)
  | save (r : AppRecord) (retry : Bool)
deriving DecidableEq, Repr

/-- A port's last-write record (R177): slot, whether it was an ERASE, and whether the result is OK. -/
structure LastWrite where
  slot : Nat
  erase : Bool
  ok : Bool
deriving DecidableEq, Repr

/-- The store unit. record is the appliance record in non-volatile store, absent where its checksum fails. -/
structure StoreUnit where
  slots : List Slot
  record : Option AppRecord
  flight : Option Flight
  savePending : Bool
  lastWrite : PerPort (Option LastWrite)
  saveResult : Option Bool
deriving DecidableEq, Repr

/-! ### The port unit (R182 to R196) -/

/-- A response frame (12.3). -/
structure Response where
  status : Status
  echo : Byte
  payload : List Byte
deriving DecidableEq, Repr

/-- A write transfer on a port (R183, R196): none in progress, one whose bytes are stored, or one in progress that a reset has
abandoned. -/
inductive WriteState where
  | none | storing | abandoned
deriving DecidableEq, Repr

/-- A port: the write in progress, the bytes held of it and whether a byte of it was answered with NACK (R183, R184), the response
buffer and the notice set (R182). The standing is fixed by the port and the attention line follows the notice set (R190). -/
structure PortRec where
  write : WriteState
  held : List Byte
  nacked : Bool
  resp : Response
  notices : List Notice
deriving DecidableEq, Repr

/-! ### The machine -/

/-- The whole part, the level inputs as they stand, and the queue of commands that are waiting. -/
structure State where
  pins : Pins
  ports : PerPort PortRec
  prog : Program
  run : Run
  prompts : Prompts
  meas : Meas
  demand : Demand
  sched : Sched
  water : Water
  faults : FaultUnit
  modes : ModeCtl
  store : StoreUnit
  pending : List Instr
deriving DecidableEq, Repr

/-- Reasons a step could stop the machine. The manual gives the part no way to stop: every command is answered and every event
has an effect or none, so no meaning raises this. Safe. -/
inductive Fault where
  /-- Raised by nobody; it stands here so that the type has a value. Safe. -/
  | halted
deriving DecidableEq, Repr

/-- Reasons a command could have no meaning. -/
inductive Refusal where
  /-- Raised only by an arm of exec whose command has no meaning yet; no arm does so. Safe. -/
  | notModelled (mnemonic : String)
deriving DecidableEq, Repr

/-- A reset rotation entry with the default configured fields of R101. -/
def Entry.atReset (ratedW rampStep : Nat) : Entry where
  ratedW := ratedW
  enabled := true
  rampStep := rampStep
  request := 0
  remaining := 0
  granted := 0
  rampBase := 0
  on := false
  shortfall := 0
  sheds := 0
  slotRated := 0

/-- A channel record after reset (R84). DESIGN CHOICE (log entry 17): R84 gives the newest mark no value; the model clears it. -/
def ChannelRec.atReset : ChannelRec where
  condition := .none
  resistance := none
  window := none
  newestMark := false
  offset := 0

/-- A port after reset (R196). -/
def PortRec.atReset : PortRec where
  write := .none
  held := []
  nacked := false
  resp := { status := .noRequest, echo := 0, payload := [] }
  notices := []

/-- The default appliance record (R179, R101). -/
def AppRecord.defaults : AppRecord where
  hardness := 250
  scaleLimit := 15000
  account := 0
  descaleCount := 0
  rinseOwed := true
  retries := 2
  limit := 3600
  mode := .adaptive
  manual := none
  floor := 1000
  volts := 230
  scan := true
  entries := {
    ring := { ratedW := 2000, enabled := true, rampStep := 0 }
    top := { ratedW := 1000, enabled := true, rampStep := 0 }
    bottom := { ratedW := 1200, enabled := true, rampStep := 0 }
    grill := { ratedW := 2000, enabled := true, rampStep := 8 }
    boiler := { ratedW := 1800, enabled := true, rampStep := 8 } }
  offsets := { cav := 0, vent := 0, probe := 0, boil := 0 }

/-- The inputs as State.reset finds them. DESIGN CHOICE (log entry 2): door closed, tank present and OK, boiler DRY. -/
def Pins.atReset : Pins where
  doorOpen := false
  tankPresent := true
  tankLevel := .ok
  boilerLevel := .dry

/-- The part after a power-on reset (R48, R63, R84, R100, R120, R140, R164, R165, R181, R196). DESIGN CHOICE (log entry 1): the
store holds 24 EMPTY slots and a valid appliance record of the defaults. -/
def State.reset : State where
  pins := Pins.atReset
  ports := { panel := PortRec.atReset, link := PortRec.atReset, service := PortRec.atReset }
  prog := { steps := [], origin := .none }
  run := {
    kind := .none
    state := .idle
    phase := .steps
    stepIdx := 0
    stepElapsed := 0
    runElapsed := 0
    held := none
    durOverride := none
    probeDeclined := false
    preheatMark := false
    startedBy := none
    endCause := none
    flushPart := none
    flushHold := 0
    secondDue := false
    options := { light := false, keepWarm := false, fastPreheat := false, eco := false }
    consent := false }
  prompts := { list := [], history := [], nextId := 1 }
  meas := {
    channels := {
      cav := ChannelRec.atReset
      vent := ChannelRec.atReset
      probe := ChannelRec.atReset
      boil := ChannelRec.atReset }
    refA := { count := 0, inRange := true }
    refB := { count := 0, inRange := true }
    present := false
    validCount := 0
    openCount := 0
    pulses := 0
    supplyW := 0
    roundCount := 0
    inProgress := none
    schedule := .atOnce
    latest := {
      readings := {
        cav := { condition := .none, value := none }
        vent := { condition := .none, value := none }
        probe := { condition := .none, value := none }
        boil := { condition := .none, value := none } }
      beganAwake := false
      awake := false
      boilerFrame := false
      budget := { mode := .adaptive, limit := 3600, floor := 1000, manual := none, eco := false, ownW := 0 } }
    owed := { judgement := false, closure := false, fault := false, budget := false, drain := false, mode := false } }
  demand := {
    requests := { ring := 0, top := 0, bottom := 0, grill := 0, boiler := 0 }
    cavityDemand := none
    fanDuty := 0
    steam := .notSteaming
    reported := false
    fastApplied := false }
  sched := {
    entries := {
      ring := Entry.atReset 2000 0
      top := Entry.atReset 1000 0
      bottom := Entry.atReset 1200 0
      grill := Entry.atReset 2000 8
      boiler := Entry.atReset 1800 8 }
    frameRunning := false
    slot := 0
    slotStarted := false
    prevW := 0
    curW := 0
    limit := 3600
    mode := .adaptive
    manual := none
    floor := 1000
    foreign := 0
    computed := 3600
    inForce := 3600
    ecoCapped := false
    headroom := 0
    measured := false
    volts := 230
    scan := true }
  water := {
    op := .idle
    purpose := .none
    attempt := none
    failures := 0
    flow := 0
    lastFill := none
    drainPending := false
    steamWanted := false
    declineMark := false
    stepDrainWaiting := false
    fillFailedRaises := 0
    drainFailedRaises := 0
    account := 0
    remainder := 0
    savedMg := 0
    hardness := 250
    scaleLimit := 15000
    retries := 2
    rinseOwed := true
    descaleCount := 0 }
  faults := {
    hold := false
    capture := none
    later := 0
    lastLater := none
    tripped := {
      reference := false
      cavityOvertemp := false
      cavitySensor := false
      boilerOvertemp := false
      boilerSensor := false } }
  modes := {
    mode := .standby
    idle := none
    fresh := false
    cooling := none
    drainOnEnd := false
    resetCause := .powerOn
    fanOut := 0 }
  store := {
    slots := List.replicate 24 .empty
    record := some AppRecord.defaults
    flight := none
    savePending := false
    lastWrite := { panel := none, link := none, service := none }
    saveResult := none }
  pending := []

end Sys2Proof.Machine
end

