-- ==== Sys2Proof/Machine/Ops.lean ====
section
/-! DEFINITION. The shared operations every block uses: one update for each block of the state, the small collections, notices,
saves of the appliance record, and how the port unit takes a frame and answers it. -/

namespace Sys2Proof.Machine

/-! ### Block updates -/

def State.mapPins (s : State) (f : Pins → Pins) : State := { s with pins := f s.pins }
def State.mapPorts (s : State) (f : PerPort PortRec → PerPort PortRec) : State := { s with ports := f s.ports }
def State.mapProg (s : State) (f : Program → Program) : State := { s with prog := f s.prog }
def State.mapRun (s : State) (f : Run → Run) : State := { s with run := f s.run }
def State.mapPrompts (s : State) (f : Prompts → Prompts) : State := { s with prompts := f s.prompts }
def State.mapMeas (s : State) (f : Meas → Meas) : State := { s with meas := f s.meas }
def State.mapDemand (s : State) (f : Demand → Demand) : State := { s with demand := f s.demand }
def State.mapSched (s : State) (f : Sched → Sched) : State := { s with sched := f s.sched }
def State.mapWater (s : State) (f : Water → Water) : State := { s with water := f s.water }
def State.mapFaults (s : State) (f : FaultUnit → FaultUnit) : State := { s with faults := f s.faults }
def State.mapModes (s : State) (f : ModeCtl → ModeCtl) : State := { s with modes := f s.modes }
def State.mapStore (s : State) (f : StoreUnit → StoreUnit) : State := { s with store := f s.store }

/-! ### Collections by port, load and channel -/

def PerPort.get {α : Type} (x : PerPort α) : Port → α
  | .panel => x.panel
  | .link => x.link
  | .service => x.service

def PerPort.modify {α : Type} (x : PerPort α) (p : Port) (f : α → α) : PerPort α :=
  match p with
  | .panel => { x with panel := f x.panel }
  | .link => { x with link := f x.link }
  | .service => { x with service := f x.service }

def PerPort.map {α β : Type} (x : PerPort α) (f : α → β) : PerPort β :=
  { panel := f x.panel, link := f x.link, service := f x.service }

def PerLoad.get {α : Type} (x : PerLoad α) : Load → α
  | .ring => x.ring
  | .top => x.top
  | .bottom => x.bottom
  | .grill => x.grill
  | .boiler => x.boiler

def PerLoad.modify {α : Type} (x : PerLoad α) (l : Load) (f : α → α) : PerLoad α :=
  match l with
  | .ring => { x with ring := f x.ring }
  | .top => { x with top := f x.top }
  | .bottom => { x with bottom := f x.bottom }
  | .grill => { x with grill := f x.grill }
  | .boiler => { x with boiler := f x.boiler }

def PerLoad.map {α β : Type} (x : PerLoad α) (f : α → β) : PerLoad β :=
  { ring := f x.ring, top := f x.top, bottom := f x.bottom, grill := f x.grill, boiler := f x.boiler }

def PerLoad.zip {α β γ : Type} (x : PerLoad α) (y : PerLoad β) (f : α → β → γ) : PerLoad γ :=
  { ring := f x.ring y.ring, top := f x.top y.top, bottom := f x.bottom y.bottom, grill := f x.grill y.grill,
    boiler := f x.boiler y.boiler }

/-- The five items in position order (R101). -/
def PerLoad.toList {α : Type} (x : PerLoad α) : List α := [x.ring, x.top, x.bottom, x.grill, x.boiler]

/-- The rotation entries in position order (R101). -/
def loadsInOrder : List Load := [.ring, .top, .bottom, .grill, .boiler]

def PerChannel.get {α : Type} (x : PerChannel α) : Channel → α
  | .cav => x.cav
  | .vent => x.vent
  | .probe => x.probe
  | .boil => x.boil

def PerChannel.modify {α : Type} (x : PerChannel α) (c : Channel) (f : α → α) : PerChannel α :=
  match c with
  | .cav => { x with cav := f x.cav }
  | .vent => { x with vent := f x.vent }
  | .probe => { x with probe := f x.probe }
  | .boil => { x with boil := f x.boil }

def PerChannel.map {α β : Type} (x : PerChannel α) (f : α → β) : PerChannel β :=
  { cav := f x.cav, vent := f x.vent, probe := f x.probe, boil := f x.boil }

/-- The four channels with their names. -/
def PerChannel.ofFun {α : Type} (f : Channel → α) : PerChannel α :=
  { cav := f .cav, vent := f .vent, probe := f .probe, boil := f .boil }

/-! ### Notices (R188) -/

/-- Posting a kind to one set: added at the end unless the set holds it already. -/
def addNotice (k : Notice) (l : List Notice) : List Notice := if k ∈ l then l else l ++ [k]

/-- A notice posted to every port. -/
def postAll (k : Notice) (s : State) : State :=
  s.mapPorts fun q => q.map fun r => { r with notices := addNotice k r.notices }

/-- A notice posted to one port (STORE_DONE). -/
def postTo (p : Port) (k : Notice) (s : State) : State :=
  s.mapPorts fun q => q.modify p fun r => { r with notices := addNotice k r.notices }

/-! ### Rounds not judged (R11) -/

/-- The run controller no longer owes its judgement of the latest round: the run has left the state in which it completed
(R11). -/
def Meas.dropJudgement (m : Meas) : Meas := { m with owed := { m.owed with judgement := false } }

/-! ### Saves of the appliance record (R174, R179) -/

/-- The stored settings at their live values. -/
def liveRecord (s : State) : AppRecord where
  hardness := s.water.hardness
  scaleLimit := s.water.scaleLimit
  account := s.water.account
  descaleCount := s.water.descaleCount
  rinseOwed := s.water.rinseOwed
  retries := s.water.retries
  limit := s.sched.limit
  mode := s.sched.mode
  manual := s.sched.manual
  floor := s.sched.floor
  volts := s.sched.volts
  scan := s.sched.scan
  entries := s.sched.entries.map fun e => { ratedW := e.ratedW, enabled := e.enabled, rampStep := e.rampStep }
  offsets := s.meas.channels.map (·.offset)

/-- A save begins and becomes the write in flight, with the values that stand now. -/
def beginSave (retry : Bool) (s : State) : State :=
  s.mapStore fun u => { u with flight := some (.save (liveRecord s) retry) }

/-- A save is requested (R174): it begins at once, or save-pending is set while a write is in flight. -/
def requestSave (s : State) : State :=
  match s.store.flight with
  | none => beginSave false s
  | some _ => s.mapStore fun u => { u with savePending := true }

/-! ### Frames taken and answered (R183 to R186) -/

/-- The ports a command is taken from, by the access table of R185. -/
inductive Access where
  | everyPort | panelOnly | notLink | serviceOnly
deriving DecidableEq, Repr

/-- The access table of R185. -/
def permits : Access → Port → Bool
  | .everyPort, _ => true
  | .panelOnly, p => p = .panel
  | .notLink, p => p ≠ .link
  | .serviceOnly, p => p = .service

/-- What an owner answers: status, payload and the state it leaves. -/
structure Reply where
  status : Status
  payload : List Byte
  state : State

/-- A command the owner does not carry out: no payload, nothing changed (R186). -/
def refuse (st : Status) (s : State) : Reply := { status := st, payload := [], state := s }

/-- A command taken with no payload. -/
def done (st : Status) (s : State) : Reply := { status := st, payload := [], state := s }

/-- The receive buffer of port p is emptied: its frame is taken, or the bytes held are discarded (R183). -/
def takeFrame (p : Port) (s : State) : State :=
  s.mapPorts fun q => q.modify p fun r => { r with held := [], nacked := false }

/-- The response frame of port p is replaced whole (R185, R186). -/
def respond (p : Port) (echo : Byte) (st : Status) (payload : List Byte) (s : State) : State :=
  s.mapPorts fun q => q.modify p fun r => { r with resp := { status := st, echo := echo, payload := payload } }

/-- The part wakes from STANDBY (R66, R81, R167): a round begins at once, and readings count as fresh only from a round begun
after the wake. -/
def wakeRounds (s : State) : State :=
  (s.mapMeas fun m =>
    { m with
      schedule := .atOnce
      inProgress := m.inProgress.map fun _ => false
      latest := { m.latest with beganAwake := false } }).mapModes fun c => { c with fresh := false }

/-- A command that wakes is handed to the mode controller first (R167, R168, R185): from STANDBY to READY with the idle timer
at 600 s, in READY the idle timer is set back, in the other modes nothing. -/
def heard (s : State) : State :=
  match s.modes.mode with
  | .standby =>
    postAll .modeChanged
      ((wakeRounds s).mapModes fun c => { c with mode := .ready, idle := some Config.idleSeconds, fanOut := 0 })
  | .ready => s.mapModes fun c => { c with idle := some Config.idleSeconds }
  | .active => s
  | .afterRun => s

/-- A command that R167 lists as waking, from port p with its standing checked, answered by its owner (R185). -/
def command (p : Port) (echo : Byte) (a : Access) (owner : State → Reply) (s : State) : State :=
  let s1 := heard (takeFrame p s)
  if permits a p then
    respond p echo (owner s1).status (owner s1).payload (owner s1).state
  else
    respond p echo .notPermitted [] s1

/-- A command that does not wake the part (the GET_ commands and STANDBY, R167), answered by its owner. -/
def quietCommand (p : Port) (echo : Byte) (a : Access) (owner : State → Reply) (s : State) : State :=
  let s1 := takeFrame p s
  if permits a p then
    respond p echo (owner s1).status (owner s1).payload (owner s1).state
  else
    respond p echo .notPermitted [] s1

/-- Byte i of a read transfer on a port (R186): the response frame of 12.3, then 0x00 however far the master reads. -/
def readByte (statusCode : Status → Byte) (r : Response) (i : Nat) : Byte :=
  (statusCode r.status :: r.echo :: BitVec.ofNat 8 r.payload.length :: r.payload).getD i 0

end Sys2Proof.Machine
end

