-- ==== Sys2Proof/Machine/Operands.lean ====
section
/-! DEFINITION. The encodings of the wire (R192, R193): the codes of the enumerated values, multi-byte fields low byte first,
and step records with the checks and clamps of R3 to R9. -/

namespace Sys2Proof.Machine

/-! ### Codes read from a frame (R192). An absent answer is a code outside the field's list. -/

def heatModeOf (b : Byte) : Option HeatMode :=
  match b.toNat with
  | 1 => some .convect
  | 2 => some .topBottom
  | 3 => some .bottom
  | 4 => some .grill
  | 5 => some .grillFan
  | 6 => some .steam
  | 7 => some .combi
  | _ => none

def channelOf (b : Byte) : Option Channel :=
  match b.toNat with
  | 1 => some .cav
  | 2 => some .vent
  | 3 => some .probe
  | 4 => some .boil
  | _ => none

def promptKindOf (b : Byte) : Option PromptKind :=
  match b.toNat with
  | 1 => some .addFood
  | 2 => some .turnFood
  | 3 => some .insertProbe
  | 4 => some .checkDoneness
  | 5 => some .refillTank
  | 6 => some .pourAgent
  | 7 => some .rinseTank
  | _ => none

def actionOf (b : Byte) : Option TimeoutAction :=
  match b.toNat with
  | 1 => some .goOn
  | 2 => some .endRun
  | _ => none

def answerOf (b : Byte) : Option Answer :=
  match b.toNat with
  | 1 => some .confirm
  | 2 => some .decline
  | 3 => some .extend
  | _ => none

def adjustFieldOf (b : Byte) : Option AdjustField :=
  match b.toNat with
  | 1 => some .setpoint
  | 2 => some .steam
  | 3 => some .fan
  | 4 => some .duration
  | _ => none

def categoryOf (b : Byte) : Option Category :=
  match b.toNat with
  | 1 => some .bake
  | 2 => some .roast
  | 3 => some .steam
  | 4 => some .combi
  | 5 => some .reheat
  | 6 => some .proof
  | _ => none

def budgetModeOf (b : Byte) : Option BudgetMode :=
  match b.toNat with
  | 1 => some .adaptive
  | 2 => some .manual
  | _ => none

/-- An entry position 0 to 4 (12.6, ELEMENT_CONFIG). -/
def loadOf (b : Byte) : Option Load :=
  match b.toNat with
  | 0 => some .ring
  | 1 => some .top
  | 2 => some .bottom
  | 3 => some .grill
  | 4 => some .boiler
  | _ => none

/-- A yes/no item of a command: 1 or 0 (12.6). -/
def yesNoOf (b : Byte) : Option Bool :=
  match b.toNat with
  | 0 => some false
  | 1 => some true
  | _ => none

/-- An option set byte: LIGHT, KEEP_WARM, FAST_PREHEAT and ECO in the four low bits; a set high bit is no option (R192). -/
def optionsOf (b : Byte) : Option Options :=
  if b.toNat < 16 then
    some { light := b.getLsbD 0, keepWarm := b.getLsbD 1, fastPreheat := b.getLsbD 2, eco := b.getLsbD 3 }
  else
    none

/-! ### Codes written to a payload (R187, R192) -/

def statusCode : Status → Byte
  | .ok => 0x00
  | .clamped => 0x01
  | .accepted => 0x02
  | .unknownCommand => 0x10
  | .length => 0x11
  | .notPermitted => 0x12
  | .range => 0x13
  | .busy => 0x20
  | .stale => 0x21
  | .index => 0x22
  | .empty => 0x23
  | .corrupt => 0x24
  | .isProtected => 0x25
  | .storeBusy => 0x26
  | .faultHold => 0x27
  | .rinseRequired => 0x28
  | .consentRequired => 0x29
  | .doorOpen => 0x2A
  | .conditionPresent => 0x2B
  | .invalidStep => 0x2C
  | .invalidAnswer => 0x2D
  | .notDue => 0x2E
  | .noRequest => 0x7F

def noticeCode : Notice → Byte
  | .runChanged => 1
  | .stepAdvanced => 2
  | .promptRaised => 3
  | .promptClosed => 4
  | .faultEntered => 5
  | .waterChanged => 6
  | .steamWithheld => 7
  | .sensorChanged => 8
  | .optionsChanged => 9
  | .modeChanged => 10
  | .storeDone => 11

def heatModeCode : HeatMode → Byte
  | .convect => 1
  | .topBottom => 2
  | .bottom => 3
  | .grill => 4
  | .grillFan => 5
  | .steam => 6
  | .combi => 7

def channelCode : Channel → Byte
  | .cav => 1
  | .vent => 2
  | .probe => 3
  | .boil => 4

def promptKindCode : PromptKind → Byte
  | .addFood => 1
  | .turnFood => 2
  | .insertProbe => 3
  | .checkDoneness => 4
  | .refillTank => 5
  | .pourAgent => 6
  | .rinseTank => 7

def actionCode : TimeoutAction → Byte
  | .goOn => 1
  | .endRun => 2

def outcomeCode : PromptOutcome → Byte
  | .confirm => 1
  | .decline => 2
  | .extend => 3
  | .timeout => 4
  | .withdrawn => 5

def answeredByCode : AnsweredBy → Byte
  | .panel => 1
  | .link => 2
  | .service => 3
  | .sensor => 4
  | .nobody => 5

def categoryCode : Category → Byte
  | .bake => 1
  | .roast => 2
  | .steam => 3
  | .combi => 4
  | .reheat => 5
  | .proof => 6

def budgetModeCode : BudgetMode → Byte
  | .adaptive => 1
  | .manual => 2

def applianceModeCode : ApplianceMode → Byte
  | .standby => 1
  | .ready => 2
  | .active => 3
  | .afterRun => 4

def runStateCode : RunState → Byte
  | .idle => 1
  | .preparing => 2
  | .running => 3
  | .doorHeld => 4
  | .paused => 5
  | .ended => 6

def runKindCode : RunKind → Byte
  | .none => 1
  | .cook => 2
  | .descale => 3
  | .rinse => 4

def faultKindCode : FaultKind → Byte
  | .reference => 1
  | .cavityOvertemp => 2
  | .cavitySensor => 3
  | .boilerOvertemp => 4
  | .boilerSensor => 5
  | .fillFailed => 6
  | .drainFailed => 7

def resetCauseCode : ResetCause → Byte
  | .powerOn => 1
  | .line => 2
  | .command => 3

def slotCode : Slot → Byte
  | .empty => 1
  | .valid _ => 2
  | .corrupt => 3

def scaleStateCode : ScaleState → Byte
  | .clear => 1
  | .warn => 2
  | .block => 3

def coolingCode : Cooling → Byte
  | .cooling => 1
  | .cooled => 2

/-! Items whose code is their position in the list where the manual first defines them (R192; DEDUCED, log entry 4). -/

def phaseCode : Phase → Byte
  | .steps => 1
  | .keepWarm => 2

def portCode : Port → Byte
  | .panel => 1
  | .link => 2
  | .service => 3

def endCauseCode : EndCause → Byte
  | .completed => 1
  | .stopped => 2
  | .fault => 3
  | .pauseTimeout => 4
  | .promptTimeout => 5
  | .declined => 6
  | .reset => 7

def flushPartCode : FlushPart → Byte
  | .fill => 1
  | .hold => 2
  | .drain => 3

def sourceCode : PromptSource → Byte
  | .step => 1
  | .probe => 2
  | .water => 3

def conditionCode : Condition → Byte
  | .none => 1
  | .valid => 2
  | .opened => 3
  | .short => 4
  | .reference => 5

def presenceCode : Bool → Byte
  | true => 1
  | false => 2

def steamConditionCode : SteamCondition → Byte
  | .notSteaming => 1
  | .admitted => 2
  | .withheld => 3

def tankLevelCode : TankLevel → Byte
  | .low => 1
  | .ok => 2

def tankConditionCode : Bool → Byte
  | true => 1
  | false => 2

def boilerLevelCode : BoilerLevel → Byte
  | .wet => 1
  | .dry => 2

def waterOpCode : WaterOp → Byte
  | .idle => 1
  | .filling => 2
  | .verifying => 3
  | .retryWait => 4
  | .waitTank _ => 5
  | .drainWaitCool => 6
  | .draining _ => 7

def purposeCode : Purpose → Byte
  | .none => 1
  | .cook => 2
  | .step => 3
  | .afterRun => 4

/-- The gate: OPEN 1, WITHHELD 2. -/
def gateCode : Bool → Byte
  | false => 1
  | true => 2

/-- LOCAL 1, ANY 2 (R50). -/
def answerableCode : Bool → Byte
  | true => 1
  | false => 2

/-! ### Fields, low byte first (R192) -/

def boolByte (b : Bool) : Byte := if b then 1 else 0

def byteOf (n : Nat) : List Byte := [BitVec.ofNat 8 n]

/-- A small count or index, 255 where absent. -/
def byteOrAbsent (n : Option Nat) : List Byte := [BitVec.ofNat 8 (n.getD 255)]

/-- An enumerated code, 0 where absent. -/
def codeOrAbsent {α : Type} (f : α → Byte) (x : Option α) : List Byte := [(x.map f).getD 0]

def halfBytes (h : Half) : List Byte := [h.setWidth 8, (h >>> 8).setWidth 8]

def le16 (n : Nat) : List Byte := halfBytes (BitVec.ofNat 16 n)

/-- A two-byte unsigned field, 65,535 where absent. -/
def le16OrAbsent (n : Option Nat) : List Byte := le16 (n.getD 65535)

/-- A temperature, signed. -/
def temperature (t : Int) : List Byte := halfBytes (BitVec.ofInt 16 t)

/-- A temperature, -32,768 where absent. -/
def temperatureOrAbsent (t : Option Int) : List Byte := temperature (t.getD (-32768))

def le32 (n : Nat) : List Byte :=
  [BitVec.ofNat 8 n, BitVec.ofNat 8 (n / 256), BitVec.ofNat 8 (n / 65536), BitVec.ofNat 8 (n / 16777216)]

/-- A four-byte field, all bits set where absent. -/
def le32OrAbsent (n : Option Nat) : List Byte := le32 (n.getD 4294967295)

def optionsByte (o : Options) : Byte :=
  BitVec.ofNat 8 ((if o.light then 1 else 0) + (if o.keepWarm then 2 else 0) + (if o.fastPreheat then 4 else 0)
    + (if o.eco then 8 else 0))

/-- The origin: a slot number, 254 for EDITED or 255 for NONE (R193). -/
def originByte : Origin → Byte
  | .slot n => BitVec.ofNat 8 n
  | .edited => 254
  | .none => 255

/-! ### The mode share table (R18) -/

/-- A row of the mode share table: shares of the four elements, default fan level, hold factor and band. -/
structure ShareRow where
  ring : Nat
  top : Nat
  bottom : Nat
  grill : Nat
  fan : Nat
  hold : Int
  band : Int
deriving DecidableEq, Repr

def shareRow : HeatMode → ShareRow
  | .convect => { ring := 100, top := 0, bottom := 0, grill := 0, fan := 70, hold := 15, band := 100 }
  | .topBottom => { ring := 0, top := 60, bottom := 100, grill := 0, fan := 0, hold := 14, band := 120 }
  | .bottom => { ring := 0, top := 0, bottom := 100, grill := 0, fan := 0, hold := 16, band := 120 }
  | .grill => { ring := 0, top := 0, bottom := 0, grill := 100, fan := 0, hold := 10, band := 150 }
  | .grillFan => { ring := 30, top := 0, bottom := 0, grill := 100, fan := 60, hold := 12, band := 120 }
  | .steam => { ring := 40, top := 0, bottom := 0, grill := 0, fan := 40, hold := 6, band := 60 }
  | .combi => { ring := 100, top := 0, bottom := 0, grill := 0, fan := 60, hold := 15, band := 100 }

/-! ### Clamps (R4 to R6) -/

/-- The setpoint's upper end in a mode (R4). -/
def setpointMax : HeatMode → Int
  | .steam => 1000
  | _ => 2500

def clampSetpoint (m : HeatMode) (t : Int) : Int :=
  if t < 300 then 300 else if t > setpointMax m then setpointMax m else t

/-- The stored steam level (R5). -/
def clampSteam (m : HeatMode) (n : Nat) : Nat :=
  match m with
  | .combi => if n < 10 then 10 else if n > 90 then 90 else n
  | .steam => 100
  | _ => 0

/-- The stored fan level, with the default a written 255 asks for (R6). -/
def clampFan (default n : Nat) : Nat :=
  if n = 255 then default else if n > 100 then 100 else n

/-- Whether the stored fan level counts as a clamp: a resolved default does not (R6). -/
def fanClamped (n : Nat) : Bool := n ≠ 255 && n > 100

def clampHeat (h : Heat) : Heat where
  mode := h.mode
  setpoint := clampSetpoint h.mode h.setpoint
  steam := clampSteam h.mode h.steam
  fan := clampFan (shareRow h.mode).fan h.fan

def heatClamped (h : Heat) : Bool :=
  clampSetpoint h.mode h.setpoint ≠ h.setpoint || clampSteam h.mode h.steam ≠ h.steam || fanClamped h.fan

/-- The record as stored, from the record as written (R13). -/
def clampStep : Step → Step
  | .preheat h => .preheat (clampHeat h)
  | .cook h d g => .cook (clampHeat h) d g
  | .prompt k t a => .prompt k t a
  | .rest f d => .rest (clampFan 0 f) d

/-- Whether a field is stored with a value other than the one written (R13). -/
def stepClamped : Step → Bool
  | .preheat h => heatClamped h
  | .cook h _ _ => heatClamped h
  | .prompt _ _ _ => false
  | .rest f _ => fanClamped f

/-! ### Step records on the wire (R3, R8, R9, R193) -/

/-- The absent code of a t2. -/
def absentT2 : Half := 0x8000

/-- A guard entry, or none where R3 and R9 call for INVALID_STEP. -/
def guardOf (g : GuardWire) : Option Guard :=
  match channelOf g.sensor with
  | none => none
  | some c =>
    match g.option.toNat with
    | 1 => if g.t2 = absentT2 then some { sensor := c, test := .atMost g.t1.toInt } else none
    | 2 => if g.t2 = absentT2 then some { sensor := c, test := .atLeast g.t1.toInt } else none
    | 3 =>
      if g.t2 = absentT2 ∨ g.t2.toInt < 0 then none
      else some { sensor := c, test := .near g.t1.toInt g.t2.toInt }
    | 4 =>
      if g.t2 = absentT2 ∨ g.t1.toInt > g.t2.toInt then none
      else some { sensor := c, test := .inside g.t1.toInt g.t2.toInt }
    | 5 =>
      if g.t2 = absentT2 ∨ g.t1.toInt > g.t2.toInt then none
      else some { sensor := c, test := .outside g.t1.toInt g.t2.toInt }
    | _ => none

/-- Every guard entry, or none where one of them is invalid. -/
def guardsOf : List GuardWire → Option (List Guard)
  | [] => some []
  | g :: gs =>
    match guardOf g, guardsOf gs with
    | some x, some xs => some (x :: xs)
    | _, _ => none

/-- The guard count agrees with the guard list bit and the entries received, and is at most 4 (R193). -/
def guardCountOk (w : StepWire) : Bool :=
  let count := (w.parts >>> 5).toNat
  count ≤ 4 && count = w.guards.length && (w.parts.getLsbD 3 || count = 0)

/-- The heating part and fan level as written. -/
def heatOf (w : StepWire) : Option Heat :=
  (heatModeOf w.mode).map fun m =>
    { mode := m, setpoint := w.setpoint.toInt, steam := w.steam.toNat, fan := w.fan.toNat }

/-- The kinds a PROMPT step may carry (R8). -/
def stepPromptKind (k : PromptKind) : Bool := k = .addFood || k = .turnFood || k = .checkDoneness

/-- The record as written, or none where R3, R8, R9 or R193 calls for INVALID_STEP. -/
def stepOfWire (w : StepWire) : Option Step :=
  let heat := w.parts.getLsbD 0
  let fan := w.parts.getLsbD 1
  let dur := w.parts.getLsbD 2
  let list := w.parts.getLsbD 3
  let prm := w.parts.getLsbD 4
  if guardCountOk w then
    match w.kind.toNat with
    | 1 => if heat && fan && !dur && !list && !prm then (heatOf w).map .preheat else none
    | 2 =>
      if heat && fan && list && !prm && (dur || !w.guards.isEmpty) then
        match heatOf w, guardsOf w.guards with
        | some h, some g => some (.cook h (if dur then some w.duration.toNat else none) g)
        | _, _ => none
      else none
    | 3 =>
      if !heat && !fan && !dur && !list && prm then
        match promptKindOf w.promptKind, actionOf w.action with
        | some k, some a => if stepPromptKind k then some (.prompt k w.timeout.toNat a) else none
        | _, _ => none
      else none
    | 4 => if !heat && fan && dur && !list && !prm then some (.rest w.fan.toNat w.duration.toNat) else none
    | _ => none
  else none

/-- A duration in range (R7). -/
def durationInRange (d : Nat) : Bool := 1 ≤ d && d ≤ 43200

/-- Guard temperatures in range (R9). -/
def guardInRange (g : Guard) : Bool :=
  let span (t : Int) : Bool := -500 ≤ t && t ≤ 4000
  match g.test with
  | .atMost t1 => span t1
  | .atLeast t1 => span t1
  | .near t1 tol => span t1 && tol ≤ 1000
  | .inside t1 t2 => span t1 && span t2
  | .outside t1 t2 => span t1 && span t2

/-- Durations, timeouts and guard temperatures in range; otherwise RANGE (R7, R8, R9, R12 check 4). -/
def stepInRange : Step → Bool
  | .preheat _ => true
  | .cook _ d g => d.all durationInRange && g.all guardInRange
  | .prompt _ t _ => t = 0 || (10 ≤ t && t ≤ 3600)
  | .rest _ d => durationInRange d

def guardBytes (g : Guard) : List Byte :=
  match g.test with
  | .atMost t1 => [channelCode g.sensor, 1] ++ temperature t1 ++ halfBytes absentT2
  | .atLeast t1 => [channelCode g.sensor, 2] ++ temperature t1 ++ halfBytes absentT2
  | .near t1 t2 => [channelCode g.sensor, 3] ++ temperature t1 ++ temperature t2
  | .inside t1 t2 => [channelCode g.sensor, 4] ++ temperature t1 ++ temperature t2
  | .outside t1 t2 => [channelCode g.sensor, 5] ++ temperature t1 ++ temperature t2

def heatBytes (h : Heat) : List Byte :=
  [heatModeCode h.mode] ++ temperature h.setpoint ++ byteOf h.steam ++ byteOf h.fan

/-- A stored record on the wire; the bytes of a part not carried read 0 (R193). -/
def stepBytes : Step → List Byte
  | .preheat h => [1, 0x03] ++ heatBytes h ++ [0, 0, 0, 0, 0, 0]
  | .cook h d g =>
    [2, BitVec.ofNat 8 ((if d.isSome then 0x0F else 0x0B) + 32 * g.length)] ++ heatBytes h ++ le16 (d.getD 0) ++ [0, 0, 0, 0]
      ++ g.flatMap guardBytes
  | .prompt k t a =>
    [3, 0x10, 0, 0, 0, 0, 0, 0, 0, promptKindCode k] ++ le16 t ++ [actionCode a]
  | .rest f d => [4, 0x06, 0, 0, 0, 0] ++ byteOf f ++ le16 d ++ [0, 0, 0, 0]

/-! ### Frames (R183, R184) -/

/-- The parameter lengths the command code table allows (12.6), or none where the code is not in the table. -/
def allowedLengths (code : Byte) : Option (List Nat) :=
  match code.toNat with
  | 0x01 => some [0]
  | 0x02 => some [0]
  | 0x03 => some [1]
  | 0x04 => some [0]
  | 0x05 => some [0]
  | 0x06 => some [0]
  | 0x07 => some [0]
  | 0x08 => some [0]
  | 0x09 => some [0]
  | 0x0A => some [2]
  | 0x10 => some [14, 20, 26, 32, 38]
  | 0x11 => some [0]
  | 0x12 => some [1]
  | 0x20 => some [1]
  | 0x21 => some [0]
  | 0x22 => some [0]
  | 0x23 => some [0]
  | 0x24 => some [4]
  | 0x25 => some [1]
  | 0x26 => some [1]
  | 0x27 => some [1]
  | 0x28 => some [1]
  | 0x29 => some [2]
  | 0x30 => some [0]
  | 0x31 => some [0]
  | 0x40 => some [0]
  | 0x41 => some [0]
  | 0x42 => some [0]
  | 0x43 => some [2]
  | 0x44 => some [3, 5]
  | 0x45 => some [0]
  | 0x46 => some [0]
  | 0x50 => some ((List.range 61).map (· + 2))
  | 0x51 => some [1]
  | 0x60 => some [5]
  | 0x61 => some [4]
  | 0x62 => some [2]
  | 0x63 => some [2]
  | 0x64 => some [2]
  | 0x65 => some [1]
  | _ => none

/-- The form checks of R184 on the bytes the master clocked: the status of the first that fails, none where the frame carries
a command. Bytes past the 64th were answered with NACK (R183), so a longer write fails the first check. -/
def formCheck (bytes : List Byte) : Option Status :=
  match bytes with
  | code :: n :: params =>
    if bytes.length > 64 ∨ n.toNat > 62 ∨ params.length ≠ n.toNat then some .length
    else
      match allowedLengths code with
      | none => some .unknownCommand
      | some ls => if n.toNat ∈ ls then none else some .length
  | _ => some .length

end Sys2Proof.Machine
end

