-- ==== Sys2Proof/WellFormed.lean ====
section
/-! DEFINITION. Which terms of Instr a master, a pin or a timer of the part can give. The meanings are total and answer for
every term; this says which ones a frame or an event can spell. -/

namespace Sys2Proof

/-- A prompt id (R50). -/
def promptIdOk (id : Nat) : Bool := 1 ≤ id && id ≤ 255

/-- Checks that the operand types do not already make: a PROGRAM_PUT_STEP frame carries 0 to 4 guard entries and a RECIPE_STORE
frame 0 to 60 characters (12.6), a form-check failure is a written frame that fails a form check (R184), and a countdown or
timeout names a prompt id (R50). -/
def Instr.wf : Instr → Bool
  | .programPutStep _ _ w => w.guards.length ≤ 4
  | .recipeStore _ _ _ name => name.length ≤ 60
  | .formCheckFailure _ bytes => !bytes.isEmpty && (Machine.formCheck bytes).isSome
  | .promptCountdown id => promptIdOk id
  | .promptTimeout id => promptIdOk id
  | .getStatus _ => true
  | .getRun _ => true
  | .getStep _ _ => true
  | .getSensors _ => true
  | .getLoads _ => true
  | .getWater _ => true
  | .getFault _ => true
  | .getPrompts _ => true
  | .getNotices _ => true
  | .recipeRead _ _ _ => true
  | .programClear _ => true
  | .programLoad _ _ => true
  | .start _ _ => true
  | .pause _ => true
  | .resume _ => true
  | .stop _ => true
  | .adjust _ _ _ _ => true
  | .skip _ _ => true
  | .optSet _ _ => true
  | .optClear _ _ => true
  | .optToggle _ _ => true
  | .answer _ _ _ => true
  | .consentArm _ => true
  | .consentDrop _ => true
  | .clearFault _ => true
  | .descaleStart _ => true
  | .rinseStart _ => true
  | .setHardness _ _ => true
  | .setBudget _ _ _ _ => true
  | .standby _ => true
  | .reset _ => true
  | .recipeErase _ _ => true
  | .elementConfig _ _ _ _ _ => true
  | .setSupply _ _ _ _ => true
  | .setCal _ _ _ => true
  | .scaleSet _ _ => true
  | .setScaleLimit _ _ => true
  | .setFillRetries _ _ => true
  | .writeDiscard _ => true
  | .powerOnReset _ => true
  | .lineReset => true
  | .doorOpens => true
  | .doorCloses => true
  | .tankChange _ _ => true
  | .boilerLevelChange _ => true
  | .flowPulse => true
  | .fillVolumeLimit => true
  | .fillTimeLimit => true
  | .verifyEnd => true
  | .retryWaitEnd => true
  | .tankWaitEnd => true
  | .drainPassEnd => true
  | .fillFailed => true
  | .drainFailed => true
  | .runSecondTick => true
  | .preheatTimeout => true
  | .cookDurationEnd => true
  | .restEnd => true
  | .soakEnd => true
  | .flushHoldEnd => true
  | .keepWarmEnd => true
  | .doorHeldLimit => true
  | .pauseTimeout => true
  | .roundBegin => true
  | .roundComplete _ => true
  | .roundRunJudgement => true
  | .probeSensorClosure => true
  | .faultRoundTest => true
  | .budgetRecompute => true
  | .drainCoolTest => true
  | .modeRoundUpdate => true
  | .idleTimeout => true
  | .slotStart => true
  | .frameComplete => true
  | .storeWriteComplete _ => true
  | .saveComplete _ => true
  | .idleTimerCountdown => true

end Sys2Proof
end

