-- ==== Sys2Proof/Decode.lean ====
section
/-! DEFINITION. What the host's table words spell (nothing: no row gives bits), and how the I2C frames of 12.2 spell the commands:
the command a frame carries (R184, R185, 12.6, R192, R193) and the frame a command is sent in. -/

namespace Sys2Proof

/-- No row of spec/opcode_table.json has bits: the part takes its commands as frames of bytes and its events from pins and
timers. Every word therefore spells none. -/
def decodeTableWord (_nbits _w : Nat) : Option Instr := none

/-! ### Fields, low byte first (R192) -/

/-- The two-byte field whose low byte comes first. -/
def halfOf (lo hi : Byte) : Half := hi ++ lo

/-- The guard entries in a list of bytes, six bytes each (R193); bytes left over spell none. -/
def guardsOfBytes : List Byte → List GuardWire
  | a :: b :: c0 :: c1 :: d0 :: d1 :: rest =>
    { sensor := a, option := b, t1 := halfOf c0 c1, t2 := halfOf d0 d1 } :: guardsOfBytes rest
  | _ => []

/-- A step record from its bytes (R193). -/
def stepOfBytes : List Byte → Option StepWire
  | k :: parts :: m :: s0 :: s1 :: st :: f :: d0 :: d1 :: pk :: t0 :: t1 :: a :: rest =>
    some {
      kind := k
      parts := parts
      mode := m
      setpoint := halfOf s0 s1
      steam := st
      fan := f
      duration := halfOf d0 d1
      promptKind := pk
      timeout := halfOf t0 t1
      action := a
      guards := guardsOfBytes rest }
  | _ => none

/-- The command that a code and its parameters spell (12.6). -/
def commandOf (p : Port) (code : Byte) (params : List Byte) : Option Instr :=
  match code.toNat, params with
  | 0x01, [] => some (.getStatus p)
  | 0x02, [] => some (.getRun p)
  | 0x03, [i] => some (.getStep p i)
  | 0x04, [] => some (.getSensors p)
  | 0x05, [] => some (.getLoads p)
  | 0x06, [] => some (.getWater p)
  | 0x07, [] => some (.getFault p)
  | 0x08, [] => some (.getPrompts p)
  | 0x09, [] => some (.getNotices p)
  | 0x0A, [slot, part] => some (.recipeRead p slot part)
  | 0x10, i :: rest => (stepOfBytes rest).map (.programPutStep p i)
  | 0x11, [] => some (.programClear p)
  | 0x12, [slot] => some (.programLoad p slot)
  | 0x20, [o] => some (.start p o)
  | 0x21, [] => some (.pause p)
  | 0x22, [] => some (.resume p)
  | 0x23, [] => some (.stop p)
  | 0x24, [i, f, v0, v1] => some (.adjust p i f (halfOf v0 v1))
  | 0x25, [i] => some (.skip p i)
  | 0x26, [o] => some (.optSet p o)
  | 0x27, [o] => some (.optClear p o)
  | 0x28, [o] => some (.optToggle p o)
  | 0x29, [id, ans] => some (.answer p id ans)
  | 0x30, [] => some (.consentArm p)
  | 0x31, [] => some (.consentDrop p)
  | 0x40, [] => some (.clearFault p)
  | 0x41, [] => some (.descaleStart p)
  | 0x42, [] => some (.rinseStart p)
  | 0x43, [h0, h1] => some (.setHardness p (halfOf h0 h1))
  | 0x44, [m, f0, f1] => some (.setBudget p m (halfOf f0 f1) none)
  | 0x44, [m, f0, f1, v0, v1] => some (.setBudget p m (halfOf f0 f1) (some (halfOf v0 v1)))
  | 0x45, [] => some (.standby p)
  | 0x46, [] => some (.reset p)
  | 0x50, slot :: category :: name => some (.recipeStore p slot category name)
  | 0x51, [slot] => some (.recipeErase p slot)
  | 0x60, [e, w0, w1, on, ramp] => some (.elementConfig p e (halfOf w0 w1) on ramp)
  | 0x61, [l0, l1, v, scan] => some (.setSupply p (halfOf l0 l1) v scan)
  | 0x62, [c, o] => some (.setCal p c o)
  | 0x63, [m0, m1] => some (.scaleSet p (halfOf m0 m1))
  | 0x64, [m0, m1] => some (.setScaleLimit p (halfOf m0 m1))
  | 0x65, [n] => some (.setFillRetries p n)
  | _, _ => none

/-- What a frame of written bytes gives a port when it is taken: the command it carries, or the failure of its form checks
(R184). A write of no byte gives nothing (R183). -/
def ofFrame (p : Port) (bytes : List Byte) : Option Instr :=
  match bytes with
  | [] => none
  | [_] => some (.formCheckFailure p bytes)
  | code :: _ :: params =>
    match Machine.formCheck bytes with
    | some _ => some (.formCheckFailure p bytes)
    | none => commandOf p code params

/-! ### The frame of a command -/

def guardBytesOf (g : GuardWire) : List Byte :=
  [g.sensor, g.option] ++ Machine.halfBytes g.t1 ++ Machine.halfBytes g.t2

/-- The bytes of a step record (R193). -/
def stepBytesOf (w : StepWire) : List Byte :=
  [w.kind, w.parts, w.mode] ++ Machine.halfBytes w.setpoint ++ [w.steam, w.fan] ++ Machine.halfBytes w.duration
    ++ [w.promptKind] ++ Machine.halfBytes w.timeout ++ [w.action] ++ w.guards.flatMap guardBytesOf

/-- A request frame: code, parameter length, parameters (12.2). -/
def frameBytes (code : Byte) (params : List Byte) : List Byte := code :: BitVec.ofNat 8 params.length :: params

/-- The port and the bytes of the write that brings a command or a form-check failure; the other rows come from no frame. -/
def frameOf : Instr → Option (Port × List Byte)
  | .getStatus p => some (p, frameBytes 0x01 [])
  | .getRun p => some (p, frameBytes 0x02 [])
  | .getStep p i => some (p, frameBytes 0x03 [i])
  | .getSensors p => some (p, frameBytes 0x04 [])
  | .getLoads p => some (p, frameBytes 0x05 [])
  | .getWater p => some (p, frameBytes 0x06 [])
  | .getFault p => some (p, frameBytes 0x07 [])
  | .getPrompts p => some (p, frameBytes 0x08 [])
  | .getNotices p => some (p, frameBytes 0x09 [])
  | .recipeRead p slot part => some (p, frameBytes 0x0A [slot, part])
  | .programPutStep p i w => some (p, frameBytes 0x10 (i :: stepBytesOf w))
  | .programClear p => some (p, frameBytes 0x11 [])
  | .programLoad p slot => some (p, frameBytes 0x12 [slot])
  | .start p o => some (p, frameBytes 0x20 [o])
  | .pause p => some (p, frameBytes 0x21 [])
  | .resume p => some (p, frameBytes 0x22 [])
  | .stop p => some (p, frameBytes 0x23 [])
  | .adjust p i f v => some (p, frameBytes 0x24 ([i, f] ++ Machine.halfBytes v))
  | .skip p i => some (p, frameBytes 0x25 [i])
  | .optSet p o => some (p, frameBytes 0x26 [o])
  | .optClear p o => some (p, frameBytes 0x27 [o])
  | .optToggle p o => some (p, frameBytes 0x28 [o])
  | .answer p id ans => some (p, frameBytes 0x29 [id, ans])
  | .consentArm p => some (p, frameBytes 0x30 [])
  | .consentDrop p => some (p, frameBytes 0x31 [])
  | .clearFault p => some (p, frameBytes 0x40 [])
  | .descaleStart p => some (p, frameBytes 0x41 [])
  | .rinseStart p => some (p, frameBytes 0x42 [])
  | .setHardness p h => some (p, frameBytes 0x43 (Machine.halfBytes h))
  | .setBudget p m f none => some (p, frameBytes 0x44 (m :: Machine.halfBytes f))
  | .setBudget p m f (some v) => some (p, frameBytes 0x44 (m :: (Machine.halfBytes f ++ Machine.halfBytes v)))
  | .standby p => some (p, frameBytes 0x45 [])
  | .reset p => some (p, frameBytes 0x46 [])
  | .recipeStore p slot category name => some (p, frameBytes 0x50 (slot :: category :: name))
  | .recipeErase p slot => some (p, frameBytes 0x51 [slot])
  | .elementConfig p e w on ramp => some (p, frameBytes 0x60 ([e] ++ Machine.halfBytes w ++ [on, ramp]))
  | .setSupply p l v scan => some (p, frameBytes 0x61 (Machine.halfBytes l ++ [v, scan]))
  | .setCal p c o => some (p, frameBytes 0x62 [c, o])
  | .scaleSet p m => some (p, frameBytes 0x63 (Machine.halfBytes m))
  | .setScaleLimit p m => some (p, frameBytes 0x64 (Machine.halfBytes m))
  | .setFillRetries p n => some (p, frameBytes 0x65 [n])
  | .formCheckFailure p bytes => some (p, bytes)
  | .writeDiscard _ => none
  | .powerOnReset _ => none
  | .lineReset => none
  | .doorOpens => none
  | .doorCloses => none
  | .tankChange _ _ => none
  | .boilerLevelChange _ => none
  | .flowPulse => none
  | .fillVolumeLimit => none
  | .fillTimeLimit => none
  | .verifyEnd => none
  | .retryWaitEnd => none
  | .tankWaitEnd => none
  | .drainPassEnd => none
  | .fillFailed => none
  | .drainFailed => none
  | .runSecondTick => none
  | .preheatTimeout => none
  | .cookDurationEnd => none
  | .restEnd => none
  | .soakEnd => none
  | .flushHoldEnd => none
  | .keepWarmEnd => none
  | .doorHeldLimit => none
  | .pauseTimeout => none
  | .promptCountdown _ => none
  | .promptTimeout _ => none
  | .roundBegin => none
  | .roundComplete _ => none
  | .roundRunJudgement => none
  | .probeSensorClosure => none
  | .faultRoundTest => none
  | .budgetRecompute => none
  | .drainCoolTest => none
  | .modeRoundUpdate => none
  | .idleTimeout => none
  | .slotStart => none
  | .frameComplete => none
  | .storeWriteComplete _ => none
  | .saveComplete _ => none
  | .idleTimerCountdown => none

end Sys2Proof
end

