-- ==== Sys2Proof/Machine/Flags.lean ====
section
/-! DEFINITION. What the blocks read off the state: published values, guard truth, the water unit's conditions and gate, the
scale state, the fault conditions, the light and the attention lines, and which step is current. -/

namespace Sys2Proof.Machine

/-! ### Published values (R75, R76, R78) -/

/-- A sum of four temperatures divided by 4, rounded half away from zero (R76). -/
def meanOfFour (sum : Int) : Int := if sum ≥ 0 then (sum + 2) / 4 else -((2 - sum) / 4)

def Window.sum (w : Window) : Int := w.w0 + w.w1 + w.w2 + w.w3

/-- A channel record's value before the probe's presence is looked at. -/
def recordValue (r : ChannelRec) : Option Int := r.window.map fun w => meanOfFour w.sum + r.offset

/-- The published value of a channel: PROBE publishes only while the probe is present (R78). -/
def publishedOf (m : Meas) (c : Channel) : Option Int :=
  if c = .probe ∧ m.present = false then none else recordValue (m.channels.get c)

def published (s : State) (c : Channel) : Option Int := publishedOf s.meas c

/-- The mark of the published value (R76). With no published value R82 and R192 give its byte no value; it reads 0 (DESIGN CHOICE, log
entry 17). -/
def publishedMark (s : State) (c : Channel) : Bool := (published s c).isSome && (s.meas.channels.get c).newestMark

/-- A channel in fault (R64). -/
def Condition.inFault : Condition → Bool
  | .opened => true
  | .short => true
  | .reference => true
  | .none => false
  | .valid => false

/-! ### Guards (R10, R11) -/

/-- A guard's test on a published value (R10). -/
def GuardTest.holds (t : GuardTest) (v : Int) : Bool :=
  match t with
  | .atMost t1 => v ≤ t1
  | .atLeast t1 => t1 ≤ v
  | .near t1 tol => t1 - tol ≤ v && v ≤ t1 + tol
  | .inside t1 t2 => t1 ≤ v && v ≤ t2
  | .outside t1 t2 => v < t1 || t2 < v

/-- A guard entry in a round: false without a published value; after a DECLINE every PROBE guard is true (R10, R11). -/
def guardTrue (declined : Bool) (r : PerChannel Reading) (g : Guard) : Bool :=
  (declined && g.sensor = .probe) || ((r.get g.sensor).value.any fun v => g.test.holds v)

/-! ### The run -/

/-- The active states (R20). -/
def RunState.active : RunState → Bool
  | .preparing => true
  | .running => true
  | .doorHeld => true
  | .paused => true
  | .idle => false
  | .ended => false

/-- The states in which a step is current and prompts count (R57, R60). -/
def RunState.inStep : RunState → Bool
  | .running => true
  | .doorHeld => true
  | .paused => true
  | .preparing => false
  | .idle => false
  | .ended => false

def runActive (s : State) : Bool := s.run.state.active

def cookActive (s : State) : Bool := s.run.kind = .cook && s.run.state.active

def builtinActive (s : State) : Bool := (s.run.kind = .descale || s.run.kind = .rinse) && s.run.state.active

/-- The built-in programs (R141). -/
def builtinProgram : RunKind → List BuiltinStep
  | .descale =>
    [.drain, .prompt .pourAgent, .fill, .soak, .drain, .fill, .soak, .drain, .prompt .rinseTank, .flush, .flush]
  | .rinse => [.drain, .prompt .rinseTank, .flush, .flush]
  | .none => []
  | .cook => []

/-- The record of the program table a COOK run stands at, in phase STEPS. -/
def currentCookStep (s : State) : Option Step :=
  if s.run.kind = .cook ∧ s.run.phase = .steps then s.prog.steps[s.run.stepIdx]? else none

/-- The built-in step a DESCALE or RINSE run stands at. -/
def currentBuiltin (s : State) : Option BuiltinStep :=
  if s.run.phase = .steps then (builtinProgram s.run.kind)[s.run.stepIdx]? else none

/-- The length of the program a run executes (R29, R141). -/
def programLength (s : State) : Nat :=
  if s.run.kind = .cook then s.prog.steps.length else (builtinProgram s.run.kind).length

/-! ### The water unit -/

/-- The tank condition is OK (R121). -/
def tankOk (s : State) : Bool := s.pins.tankPresent && s.pins.tankLevel = .ok

def boilerWet (s : State) : Bool := s.pins.boilerLevel = .wet

/-- A drain is in progress (R130). -/
def WaterOp.draining? : WaterOp → Bool
  | .drainWaitCool => true
  | .draining _ => true
  | .idle => false
  | .filling => false
  | .verifying => false
  | .retryWait => false
  | .waitTank _ => false

def WaterOp.waitingTank : WaterOp → Bool
  | .waitTank _ => true
  | .idle => false
  | .filling => false
  | .verifying => false
  | .retryWait => false
  | .drainWaitCool => false
  | .draining _ => false

/-- The pumps (R123): the fill pump in FILLING alone, the drain pump in DRAINING alone. -/
def fillPumpOn (s : State) : Bool := s.water.op = .filling

def drainPumpOn (s : State) : Bool := s.water.op = .draining false || s.water.op = .draining true

/-- The gate's two reasons (R130). -/
def gateDeclined (s : State) : Bool := s.water.declineMark

def gateDraining (s : State) : Bool := s.water.op.draining? && cookActive s

/-- The water unit's gate is WITHHELD (R130). -/
def gateWithheld (s : State) : Bool := gateDeclined s || gateDraining s

/-- The warning level (R135). -/
def warningLevel (limit : Nat) : Nat := limit * 80 / 100

/-- The scale state of an account under a limit (R135). -/
def scaleStateOf (account limit : Nat) : ScaleState :=
  if account ≥ limit then .block else if account ≥ warningLevel limit then .warn else .clear

def scaleState (s : State) : ScaleState := scaleStateOf s.water.account s.water.scaleLimit

/-- Condition 2, 3 or 4 of R91 holds. -/
def steamDenied (s : State) : Bool := scaleState s = .block || s.water.rinseOwed || gateWithheld s

/-- An after-run drain is owed (R171). -/
def drainOwed (s : State) : Bool := s.water.drainPending || (s.water.op.draining? && s.water.purpose = .afterRun)

/-! ### Faults (R155) -/

/-- The condition-present test of R155, on the latest completed round. -/
def conditionPresent (s : State) : FaultKind → Bool
  | .reference => !s.meas.refA.inRange || !s.meas.refB.inRange
  | .cavityOvertemp => s.meas.latest.readings.cav.value.all fun v => v > 2700
  | .cavitySensor => s.meas.latest.readings.cav.condition.inFault
  | .boilerOvertemp => s.meas.latest.readings.boil.value.all fun v => v > 1300
  | .boilerSensor => s.meas.latest.readings.boil.condition.inFault
  | .fillFailed => false
  | .drainFailed => false

def isOpenOrShort (c : Condition) : Bool := c = .opened || c = .short

/-- The condition under which the round gives a kind (R155), arming apart. -/
def roundShows (s : State) : FaultKind → Bool
  | .reference => !s.meas.refA.inRange || !s.meas.refB.inRange
  | .cavityOvertemp => s.meas.latest.readings.cav.value.any fun v => v > 2900
  | .cavitySensor => isOpenOrShort s.meas.latest.readings.cav.condition && s.meas.latest.awake
  | .boilerOvertemp => s.meas.latest.readings.boil.value.any fun v => v > 1400
  | .boilerSensor => isOpenOrShort s.meas.latest.readings.boil.condition && s.meas.latest.boilerFrame
  | .fillFailed => false
  | .drainFailed => false

/-- The current frame's heating uses the boiler: a SOAK step, or a heating whose steam condition is ADMITTED (R91, R155). -/
def frameUsesBoiler (s : State) : Bool :=
  s.sched.frameRunning && (currentBuiltin s = some .soak || s.demand.steam = .admitted)

/-! ### Outputs -/

/-- The light output (R166). -/
def lightOn (s : State) : Bool := s.modes.mode ≠ .standby && (s.pins.doorOpen || s.run.options.light)

/-- The attention line of a port is asserted (R190). -/
def attention (s : State) (p : Port) : Bool := !(s.ports.get p).notices.isEmpty

/-- A heating output is switched on (R101). -/
def loadOn (s : State) (l : Load) : Bool := (s.sched.entries.get l).on

end Sys2Proof.Machine
end

