-- ==== Sys2Proof/Machine/Prompts.lean ====
section
/-! DEFINITION. The prompt unit's own operations (R49 to R59): raising, closing and withdrawing prompts. What a raiser does with
an outcome stands with the raiser. -/

namespace Sys2Proof.Machine

/-- Prompts that only the panel and service ports may answer (R52). -/
def PromptKind.isLocal : PromptKind → Bool
  | .checkDoneness => false
  | .addFood => true
  | .turnFood => true
  | .insertProbe => true
  | .refillTank => true
  | .pourAgent => true
  | .rinseTank => true

/-- The answers a kind accepts (R52). -/
def PromptKind.accepts : PromptKind → Answer → Bool
  | _, .confirm => true
  | .checkDoneness, .decline => false
  | _, .decline => true
  | .checkDoneness, .extend => true
  | _, .extend => false

/-- The next id after n in the round 1 to 255. -/
def idAfter (n : Nat) : Nat := if n ≥ 255 then 1 else n + 1

/-- The first id from n on that is not in the list, looking at most fuel times further (R51). -/
def freeId (used : List Nat) : Nat → Nat → Nat
  | 0, n => n
  | fuel + 1, n => if n ∈ used then freeId used fuel (idAfter n) else n

def promptOpen (s : State) (k : PromptKind) : Bool := s.prompts.list.any fun p => p.kind = k

/-- A prompt leaves the list, enters the history, and PROMPT_CLOSED is posted (R55 effects 1 to 3). -/
def closePrompt (p : Prompt) (o : PromptOutcome) (b : AnsweredBy) (s : State) : State :=
  postAll .promptClosed
    (s.mapPrompts fun u =>
      { u with
        list := u.list.filter fun q => q.id ≠ p.id
        history := ({ id := p.id, kind := p.kind, outcome := o, by_ := b } :: u.history).take 4 })

/-- Prompts withdrawn in list order, oldest first (R58); a raiser takes no action on WITHDRAWN. -/
def withdrawList : List Prompt → State → State
  | [], s => s
  | p :: ps, s => withdrawList ps (closePrompt p .withdrawn .nobody s)

/-- Every open prompt that fits is withdrawn (R58). -/
def withdrawWhere (fits : Prompt → Bool) (s : State) : State := withdrawList (s.prompts.list.filter fits) s

/-- The prompt joins the list under the next id, and PROMPT_RAISED is posted (R51 effects 2 to 4). -/
def addPrompt (k : PromptKind) (src : PromptSource) (timeout : Nat) (a : TimeoutAction) (s : State) : State :=
  postAll .promptRaised
    (s.mapPrompts fun u =>
      { u with
        list := u.list ++
          [{ id := u.nextId, kind := k, source := src, raisedAt := s.run.runElapsed, timeout := timeout, action := a,
             remaining := if timeout = 0 then Config.pauseLimit else timeout }]
        nextId := freeId (u.list.map (·.id)) (u.list.length + 1) (idAfter u.nextId) })

/-- Raising a prompt (R51): an open prompt of the same source is withdrawn first. -/
def raisePrompt (k : PromptKind) (src : PromptSource) (timeout : Nat) (a : TimeoutAction) (s : State) : State :=
  addPrompt k src timeout a (withdrawWhere (fun p => p.source = src) s)

/-- The action a TIMEOUT hands to the raiser (R57). -/
def timeoutAction (p : Prompt) : TimeoutAction :=
  if p.kind = .refillTank then .goOn
  else if p.timeout = 0 ∨ p.timeout = Config.pauseLimit then .endRun
  else p.action

end Sys2Proof.Machine
end

