-- ==== Sys2Proof/Machine/Scheduler.lean ====
section
/-! DEFINITION. The load scheduler (R101 to R115): frame formation, the slot walk, cuts, the budget and the shed. -/

namespace Sys2Proof.Machine

/-! ### Entries -/

/-- The entry's request for a frame, under its ramp limit, and the frame fields it resets (R103). -/
def Entry.form (e : Entry) (demand : Nat) : Entry :=
  let r := if e.rampStep = 0 then demand else min demand (e.rampBase + e.rampStep)
  { e with request := r, remaining := r, granted := 0, rampBase := r, sheds := 0 }

/-- The entry at a cut (R109). -/
def Entry.cut (e : Entry) : Entry := { e with on := false, remaining := 0, rampBase := 0 }

/-- The entry is chosen for a slot (R106). -/
def Entry.grant (e : Entry) : Entry :=
  { e with on := true, remaining := e.remaining - 1, granted := e.granted + 1, slotRated := e.ratedW }

/-- The entry is switched off, giving the slot in progress back where the slot belongs to the frame (R110, R112, R118). -/
def Entry.giveBack (slotStarted : Bool) (e : Entry) : Entry :=
  if slotStarted then { e with on := false, remaining := e.remaining + 1, granted := e.granted - 1 }
  else { e with on := false }

/-! ### Switching one entry off within a slot -/

/-- An entry that is on is switched off at once with the slot given back; current slot watts fall by the rating with which the
slot began (R107). -/
def Sched.switchOff (u : Sched) (l : Load) : Sched :=
  let e := u.entries.get l
  if e.on then
    { u with entries := u.entries.modify l (Entry.giveBack u.slotStarted), curW := u.curW - e.slotRated }
  else u

/-- The BOILER entry's remaining slots are withdrawn; the slot in progress is not given back (R111). -/
def Sched.withdrawBoiler (u : Sched) : Sched :=
  let e := u.entries.boiler
  if u.frameRunning then
    { u with
      entries := { u.entries with boiler := { e with remaining := 0, on := false } }
      curW := if e.on then u.curW - e.slotRated else u.curW }
  else u

/-- Every entry is switched off at once and the frame abandoned (R109). -/
def Sched.cut (u : Sched) : Sched :=
  { u with
    entries := u.entries.map Entry.cut
    frameRunning := false
    slot := 0
    slotStarted := false
    prevW := 0
    curW := 0 }

/-- Every ramp base becomes 0 (R104). -/
def Sched.clearBases (u : Sched) : Sched :=
  { u with entries := u.entries.map fun e => { e with rampBase := 0 } }

/-! ### The walk (R105, R106) -/

/-- The walk in progress: the entries, the headroom left, and whether a load that did not fit has ended it (scan off). -/
structure Walk where
  entries : PerLoad Entry
  headroom : Nat
  ended : Bool
deriving DecidableEq, Repr

/-- One visit (R106); a BOILER entry with the level DRY is treated as not fitting. -/
def Walk.visit (scan wet : Bool) (w : Walk) (l : Load) : Walk :=
  let e := w.entries.get l
  if w.ended then w
  else if !e.enabled || e.remaining = 0 then w
  else if e.ratedW ≤ w.headroom ∧ (l = .boiler → wet = true) then
    { w with entries := w.entries.modify l Entry.grant, headroom := w.headroom - e.ratedW }
  else if scan then w
  else { w with ended := true }

/-- The rotating order: position order from position n, wrapping from BOILER to RING (R105). -/
def rotatedFrom (n : Nat) : List Load := loadsInOrder.drop n ++ loadsInOrder.take n

/-- The visits of slot n: the urgent entries in position order, then the others from position n mod 5 (R105). -/
def visitOrder (entries : PerLoad Entry) (n : Nat) : List Load :=
  let urgent (l : Load) : Bool := (entries.get l).remaining ≥ 40 - n
  loadsInOrder.filter urgent ++ (rotatedFrom (n % 5)).filter fun l => !urgent l

/-- The walk of slot n under a budget (R105, R106): every entry starts switched off and the walk chooses. -/
def walk (entries : PerLoad Entry) (inForce : Nat) (scan wet : Bool) (n : Nat) : Walk :=
  (visitOrder entries n).foldl (Walk.visit scan wet)
    { entries := entries.map fun e => { e with on := false }, headroom := inForce - Config.reserveW, ended := false }

/-- The rated watts of the entries switched on. -/
def wattsOn (entries : PerLoad Entry) : Nat :=
  (entries.toList.map fun e => if e.on then e.ratedW else 0).sum

/-- Slot number n starts (R102 steps 2 to 4): the budget is taken up, the walk decides, the slot-watts record shifts. -/
def Sched.startSlot (u : Sched) (wet : Bool) (n : Nat) : Sched :=
  let w := walk u.entries u.computed u.scan wet n
  { u with
    entries := w.entries
    slot := n
    slotStarted := true
    inForce := u.computed
    headroom := w.headroom
    prevW := u.curW
    curW := wattsOn w.entries }

/-- A completed frame's shortfall (R108). -/
def Sched.recordShortfall (u : Sched) : Sched :=
  { u with entries := u.entries.map fun e => { e with shortfall := e.remaining } }

/-- A new frame is formed from the demand requests (R103), before its slot 0 is decided. -/
def Sched.formFrame (u : Sched) (requests : PerLoad Nat) : Sched :=
  { u with
    entries := u.entries.zip requests Entry.form
    frameRunning := true
    slot := 0
    slotStarted := false }

/-! ### The budget and the shed (R112 to R115) -/

/-- The budget of R115 before any round: the supply limit, or the manual value in MANUAL mode. -/
def plainBudget (u : Sched) : Nat :=
  match u.mode with
  | .adaptive => u.limit
  | .manual => u.manual.getD u.limit

/-- The mean of the two slot-watts values, truncated (R114 step 1). -/
def Sched.ownW (u : Sched) : Nat := (u.prevW + u.curW) / 2

/-- What the budget computation reads at a round completion (R114). That own W and the limit of the shed are among it, as the
settings are, is the model's reading (DEDUCED, log entry 10). -/
def Sched.inputs (u : Sched) (eco : Bool) : BudgetInputs where
  mode := u.mode
  limit := u.limit
  floor := u.floor
  manual := u.manual
  eco := eco
  ownW := u.ownW

/-- Steps 2 to 4 of R114 from the round's supply power and what was read at its completion. -/
def Sched.recompute (u : Sched) (supplyW : Nat) (b : BudgetInputs) : Sched :=
  let foreign := supplyW - b.ownW
  let base :=
    match b.mode with
    | .adaptive => min (max (b.limit - foreign) b.floor) b.limit
    | .manual => b.manual.getD b.limit
  { u with
    foreign := foreign
    computed := if b.eco ∧ base > 2000 then 2000 else base
    ecoCapped := b.eco && base > 2000
    measured := true }

/-- One entry is shed: the slot given back and the shed counted (R112). -/
def Sched.shedOne (u : Sched) (l : Load) : Sched :=
  let v := u.switchOff l
  if u.slotStarted then { v with entries := v.entries.modify l fun e => { e with sheds := e.sheds + 1 } } else v

/-- The shed over a list of entries until the excess is covered (R112). -/
def Sched.shedList : List Load → Nat → Sched → Sched
  | [], _, u => u
  | l :: ls, excess, u =>
    if excess = 0 then u
    else if (u.entries.get l).on then Sched.shedList ls (excess - (u.entries.get l).ratedW) (u.shedOne l)
    else Sched.shedList ls excess u

/-- The emergency shed over the supply limit of the round (R112): BOILER first, RING last. -/
def Sched.shed (u : Sched) (supplyW limit : Nat) : Sched :=
  Sched.shedList loadsInOrder.reverse (supplyW - limit) u

/-- The scheduler after any reset, its configured fields as they stand (R115, R120). -/
def Sched.cleared (u : Sched) : Sched :=
  { u with
    entries := u.entries.map fun e =>
      { e with request := 0, remaining := 0, granted := 0, rampBase := 0, on := false, shortfall := 0, sheds := 0,
               slotRated := 0 }
    frameRunning := false
    slot := 0
    slotStarted := false
    prevW := 0
    curW := 0
    foreign := 0
    computed := plainBudget u
    inForce := plainBudget u
    ecoCapped := false
    headroom := 0
    measured := false }

/-! ### On the state -/

/-- The demand unit's figures go idle when the run leaves RUNNING (R98). -/
def Demand.idle (d : Demand) : Demand :=
  { d with
    requests := { ring := 0, top := 0, bottom := 0, grill := 0, boiler := 0 }
    cavityDemand := none
    fanDuty := 0
    steam := .notSteaming
    fastApplied := false }

/-- The loads are cut and the demand unit goes idle (R98, R109). -/
def cutLoads (s : State) : State := (s.mapSched Sched.cut).mapDemand Demand.idle

/-- The run leaves RUNNING for a held state: loads cut, demand idle, and the demand unit holds the fan at 0 (R97). -/
def holdOutputs (s : State) : State := (cutLoads s).mapModes fun c => { c with fanOut := 0 }

end Sys2Proof.Machine
end

