-- ==== Sys2Proof/Machine/Measure.lean ====
section
/-! DEFINITION. The measurement unit's arithmetic (R68 to R80) and what the completion of a round does. -/

namespace Sys2Proof.Machine

/-! ### From counts to resistance (R68 to R70) -/

/-- A reference count is in range (R68). -/
def referenceInRange (n : Nat) : Bool := 20000 ≤ n && n ≤ 60000

/-- A quotient rounded half up. -/
def roundHalfUp (a b : Nat) : Nat := (2 * a + b) / (2 * b)

/-- The platinum channels, on REF_A. -/
def onRefA : Channel → Bool
  | .cav => true
  | .vent => true
  | .probe => false
  | .boil => false

/-- Reference value in tenths of an ohm (4.1). -/
def referenceValue (c : Channel) : Nat := if onRefA c then 10000 else 100000

/-- Short limit in tenths of an ohm (R70). -/
def shortLimit (c : Channel) : Nat := if onRefA c then 500 else 200

/-! ### From resistance to temperature (R71, R72) -/

/-- The breakpoints (R, T) of a channel's table (4.3). -/
def tempTable (c : Channel) : List (Int × Int) :=
  if onRefA c then
    [(8031, -500), (10000, 0), (13851, 1000), (17586, 2000), (21205, 3000), (24709, 4000)]
  else
    [(1053900, -200), (336240, 0), (100000, 250), (35880, 500), (14920, 750), (6976, 1000), (3588, 1250), (1996, 1500)]

/-- R lies between two breakpoint resistances, both included. -/
def between (r a b : Int) : Bool := min a b ≤ r && r ≤ max a b

/-- The whole interpolation formed exactly, then truncated toward zero (R71). -/
def interpolate (r : Int) (a b : Int × Int) : Int :=
  (a.2 * (b.1 - a.1) + (r - a.1) * (b.2 - a.2)).tdiv (b.1 - a.1)

/-- The table temperature of a resistance within the table (R71); none outside it. -/
def lookup (r : Int) : List (Int × Int) → Option Int
  | a :: b :: rest => if between r a.1 b.1 then some (interpolate r a b) else lookup r (b :: rest)
  | _ => none

/-- The end temperature of the side on which a resistance lies outside its table (R72). -/
def clampedTemp (c : Channel) (r : Int) : Int :=
  if onRefA c then (if r < 8031 then -500 else 4000) else (if r > 1053900 then -200 else 1500)

/-- Table temperature and OUT_OF_TABLE mark of a VALID resistance (R71, R72). -/
def tableTemp (c : Channel) (r : Int) : Int × Bool :=
  match lookup r (tempTable c) with
  | some t => (t, false)
  | none => (clampedTemp c r, true)

/-! ### One channel in one round -/

/-- What a channel conversion gives: condition, resistance, and for a VALID one its table temperature and mark. -/
structure Conversion where
  condition : Condition
  resistance : Option Nat
  reading : Option (Int × Bool)
deriving DecidableEq, Repr

/-- A channel conversion from the reference count and the channel's count (R68 to R72). -/
def convert (c : Channel) (nref ns : Nat) : Conversion :=
  if !referenceInRange nref then { condition := .reference, resistance := none, reading := none }
  else if ns < 16 then { condition := .opened, resistance := none, reading := none }
  else
    let r := roundHalfUp (referenceValue c * nref) ns
    if r > 99999999 then { condition := .opened, resistance := none, reading := none }
    else if r < shortLimit c then { condition := .short, resistance := some r, reading := none }
    else { condition := .valid, resistance := some r, reading := some (tableTemp c r) }

/-- A reading enters the window (R74). -/
def pushReading (w : Option Window) (t : Int) : Window :=
  match w with
  | none => { w0 := t, w1 := t, w2 := t, w3 := t }
  | some x => { w0 := x.w1, w1 := x.w2, w2 := x.w3, w3 := t }

/-- The channel record after a round (R64, R74, R75). Where the round leaves the window empty there is no newest reading, and
the mark reads clear: the model's choice (log entry 17). -/
def ChannelRec.after (r : ChannelRec) (v : Conversion) : ChannelRec where
  condition := v.condition
  resistance := v.resistance
  window := v.reading.map fun x => pushReading r.window x.1
  newestMark := v.reading.any (·.2)
  offset := r.offset

/-! ### Probe presence (R77) -/

def bump (n : Nat) : Nat := min (n + 1) 2

/-- The valid and open counts after a round. -/
def validCountAfter (m : Meas) (c : Condition) : Nat := if c = .valid then bump m.validCount else 0

def openCountAfter (m : Meas) (c : Condition) : Nat := if c = .opened then bump m.openCount else 0

/-- Presence after a round. -/
def presentAfter (m : Meas) (c : Condition) : Bool :=
  if m.present then !(openCountAfter m c = 2) else validCountAfter m c = 2

/-! ### The round -/

def countOf (k : RoundCounts) : Channel → Nat
  | .cav => k.cav
  | .vent => k.vent
  | .probe => k.probe
  | .boil => k.boil

def refCountOf (k : RoundCounts) (c : Channel) : Nat := if onRefA c then k.refA else k.refB

def conversionOf (k : RoundCounts) (c : Channel) : Conversion := convert c (refCountOf k c) (countOf k c)

/-- The unit's record after a round that began awake or not, before the result is handed on (R65, R79, R80). -/
def Meas.measured (m : Meas) (k : RoundCounts) (volts : Nat) : Meas :=
  let probe := (conversionOf k .probe).condition
  let pulses := min k.pulses 9999
  { m with
    channels := PerChannel.ofFun fun c => (m.channels.get c).after (conversionOf k c)
    refA := { count := k.refA, inRange := referenceInRange k.refA }
    refB := { count := k.refB, inRange := referenceInRange k.refB }
    present := presentAfter m probe
    validCount := validCountAfter m probe
    openCount := openCountAfter m probe
    pulses := pulses
    supplyW := pulses * volts / 100
    roundCount := min (m.roundCount + 1) 4294967295
    inProgress := none }

/-- The readings a measured record publishes (R67). -/
def Meas.readings (m : Meas) : PerChannel Reading :=
  PerChannel.ofFun fun c => { condition := (m.channels.get c).condition, value := publishedOf m c }

/-- A condition or the presence has changed, so SENSOR_CHANGED is posted (R64, R78). -/
def Meas.differs (m m2 : Meas) : Bool :=
  m.channels.cav.condition ≠ m2.channels.cav.condition || m.channels.vent.condition ≠ m2.channels.vent.condition ||
  m.channels.probe.condition ≠ m2.channels.probe.condition || m.channels.boil.condition ≠ m2.channels.boil.condition ||
  m.present ≠ m2.present

/-- The published set is replaced whole, and each block owes the taking of the round (R67); the run controller only where the
run is in PREPARING or RUNNING as the values are published (R11, R27). What a block has not yet taken of the round before is
replaced and not taken any more, a change to PRESENT among it (R67 gives no word on it: DESIGN CHOICE, log entry 10). -/
def publishRound (k : RoundCounts) (beganAwake : Bool) (s : State) : State :=
  let m := s.meas.measured k s.sched.volts
  let s1 := s.mapMeas fun _ =>
    { m with
      latest := {
        readings := m.readings
        beganAwake := beganAwake
        awake := s.modes.mode ≠ .standby
        boilerFrame := frameUsesBoiler s
        budget := s.sched.inputs s.run.options.eco }
      owed := {
        judgement := s.run.state = .preparing || s.run.state = .running
        closure := m.present && !s.meas.present
        fault := true
        budget := true
        drain := true
        mode := true } }
  if s.meas.differs m then postAll .sensorChanged s1 else s1

/-- The seconds from one round's start to the next in a mode (R66). -/
def roundPeriod : ApplianceMode → Nat
  | .standby => 8
  | .ready => 1
  | .active => 1
  | .afterRun => 1

/-- The measurement unit after any reset; the calibration offsets stay as they stand (R84). The newest mark is cleared, which is
the model's choice (log entry 17). -/
def Meas.cleared (m : Meas) : Meas where
  channels := m.channels.map fun c =>
    { condition := .none, resistance := none, window := none, newestMark := false, offset := c.offset }
  refA := { count := 0, inRange := true }
  refB := { count := 0, inRange := true }
  present := false
  validCount := 0
  openCount := 0
  pulses := 0
  supplyW := 0
  roundCount := 0
  inProgress := none
  schedule := .atOnce
  latest := State.reset.meas.latest
  owed := State.reset.meas.owed

end Sys2Proof.Machine
end

