-- ==== Sys2Proof/Machine/Demand.lean ====
section
/-! DEFINITION. The demand unit (R86 to R98): the heating in force, the cavity demand, the requests and the steam gate. -/

namespace Sys2Proof.Machine

/-! ### The heating in force (R88) -/

/-- A heating: a mode row with setpoint, steam level and fan, with FAST_PREHEAT additions or not; a SOAK; or none, with the fan
duty a REST step asks for. -/
inductive Heating where
  | row (heat : Heat) (fast : Bool)
  | soak
  | off (fan : Nat)
deriving DecidableEq, Repr

/-- FAST_PREHEAT additions apply to a PREHEAT in CONVECT or COMBI (R19). -/
def fastApplies (o : Options) (h : Heat) : Bool := o.fastPreheat && (h.mode = .convect || h.mode = .combi)

/-- The heating a PROMPT step keeps: that of the nearest step before it that is not a PROMPT step (R33), the steps before it
given nearest first. -/
def heldHeating (o : Options) : List Step → Heating
  | [] => .off 0
  | .preheat h :: _ => .row h (fastApplies o h)
  | .cook h _ _ :: _ => .row h false
  | .rest _ _ :: _ => .off 0
  | .prompt _ _ _ :: rest => heldHeating o rest

/-- The heating of the KEEP_WARM phase (R35, R96). -/
def keepWarmHeat : Heat := { mode := .topBottom, setpoint := 650, steam := 0, fan := 0 }

/-- The heating in force for a step of the program table. -/
def stepHeating (o : Options) (steps : List Step) (i : Nat) : Heating :=
  match steps[i]? with
  | some (.preheat h) => .row h (fastApplies o h)
  | some (.cook h _ _) => .row h false
  | some (.rest f _) => .off f
  | some (.prompt _ _ _) => heldHeating o (steps.take i).reverse
  | none => .off 0

/-- The heating in force (R88). -/
def heatingInForce (s : State) : Heating :=
  match s.run.phase with
  | .keepWarm => .row keepWarmHeat false
  | .steps =>
    match s.run.kind with
    | .cook => stepHeating s.run.options s.prog.steps s.run.stepIdx
    | .descale => if currentBuiltin s = some .soak then .soak else .off 0
    | .rinse => .off 0
    | .none => .off 0

/-! ### Cavity demand and element requests (R89, R90) -/

/-- A whole number clamped to 0 to n. -/
def clampNat (t : Int) (n : Nat) : Nat := min t.toNat n

/-- The cavity demand from the published CAV value (R89). -/
def cavityDemandOf (h : Heat) (cav : Int) : Nat :=
  let row := shareRow h.mode
  clampNat ((h.setpoint * row.hold).tdiv 1000 + ((h.setpoint - cav) * 100).tdiv row.band) 100

/-- The shares of a row with the FAST_PREHEAT additions (R19). -/
def shares (m : HeatMode) (fast : Bool) : PerLoad Nat :=
  let row := shareRow m
  { ring := row.ring, top := row.top + (if fast then 50 else 0), bottom := row.bottom,
    grill := row.grill + (if fast then 50 else 0), boiler := 0 }

/-- An element's demand request (R90), rounded half up. -/
def elementRequest (demand share : Nat) : Nat := (2 * (demand * share * 40) + 10000) / 20000

/-! ### Steam (R91, R92, R95) -/

/-- The steam condition of a heating with a mode row (R91, R99). -/
def steamConditionOf (s : State) (steam : Nat) : SteamCondition :=
  if steam = 0 then .notSteaming else if steamDenied s then .withheld else .admitted

/-- Slots of a steam level, rounded half up. -/
def steamSlots (level : Nat) : Nat := (2 * (level * 40) + 100) / 200

/-- The BOILER request with the gate open (R92). -/
def boilerSteamRequest (s : State) (level : Nat) : Nat :=
  if boilerWet s = false then 0
  else
    match published s .boil with
    | none => 0
    | some b =>
      if b < 960 then 40
      else if (published s .vent).any fun v => v ≥ 990 then steamSlots level / 2
      else steamSlots level

/-- The BOILER request of a SOAK step (R95). -/
def soakRequest (s : State) : Nat :=
  if boilerWet s = false then 0
  else
    match published s .boil with
    | none => 0
    | some b => clampNat (((600 - b) * 40).tdiv 50) 40

/-! ### A frame start (R86) -/

/-- The demand unit's figures at a frame start; the mark is kept. -/
def demandAtFrame (s : State) : Demand :=
  match heatingInForce s with
  | .row h fast =>
    let d := (published s .cav).map (cavityDemandOf h)
    let sh := shares h.mode fast
    let steam := steamConditionOf s h.steam
    { requests := {
        ring := elementRequest (d.getD 0) sh.ring
        top := elementRequest (d.getD 0) sh.top
        bottom := elementRequest (d.getD 0) sh.bottom
        grill := elementRequest (d.getD 0) sh.grill
        boiler := if steam = .admitted then boilerSteamRequest s h.steam else 0 }
      cavityDemand := d
      fanDuty := h.fan
      steam := steam
      reported := s.demand.reported
      fastApplied := fast }
  | .soak =>
    { requests := { ring := 0, top := 0, bottom := 0, grill := 0, boiler := soakRequest s }
      cavityDemand := none
      fanDuty := 0
      steam := .notSteaming
      reported := s.demand.reported
      fastApplied := false }
  | .off f =>
    { requests := { ring := 0, top := 0, bottom := 0, grill := 0, boiler := 0 }
      cavityDemand := none
      fanDuty := f
      steam := .notSteaming
      reported := s.demand.reported
      fastApplied := false }

/-- STEAM_WITHHELD posted under the mark: once for each step entry (R93). -/
def reportWithheld (s : State) : State :=
  if s.demand.reported then s
  else postAll .steamWithheld (s.mapDemand fun d => { d with reported := true })

/-- The steam gate closes during a frame (R94, R111): with the run in RUNNING and the frame's steam ADMITTED, the BOILER slots
are withdrawn and the withholding reported. -/
def steamGateClosing (s : State) : State :=
  if s.run.state = .running ∧ s.sched.frameRunning = true ∧ s.demand.steam = .admitted then
    reportWithheld ((s.mapSched Sched.withdrawBoiler).mapDemand fun d => { d with steam := .withheld })
  else s

end Sys2Proof.Machine
end

