-- ==== Sys2Proof/Machine/WaterOps.lean ====
section
/-! DEFINITION. The water unit's operations (R121 to R136): fills, drains, the gate, the scale account and the rinse-owed flag,
up to the point where another block takes over. -/

namespace Sys2Proof.Machine

/-! ### Changes other blocks are told of -/

/-- The gate has changed since it stood at before: WATER_CHANGED is posted, and a closing is handed to the demand unit (R130). -/
def noteGate (before : Bool) (s : State) : State :=
  if gateWithheld s = before then s
  else if gateWithheld s then steamGateClosing (postAll .waterChanged s)
  else postAll .waterChanged s

/-- The scale state has changed since it stood at before: WATER_CHANGED is posted, and BLOCK closes the steam gate (R135). -/
def noteScale (before : ScaleState) (s : State) : State :=
  if scaleState s = before then s
  else if scaleState s = .block then steamGateClosing (postAll .waterChanged s)
  else postAll .waterChanged s

/-! ### The scale account (R134, R136) -/

/-- A volume fed at the hardness in force is added to the account and the remainder (R134). -/
def Water.accrue (w : Water) (volume : Nat) : Water :=
  let total := w.remainder + volume * w.hardness
  { w with account := min (w.account + total / 1000) 65535, remainder := total % 1000 }

/-- The account is handed to the store unit: saved mg takes the live value and a save is requested (R136). -/
def saveAccount (s : State) : State := requestSave (s.mapWater fun w => { w with savedMg := w.account })

/-- An accrual with what hangs on it (R134 to R136); none where the run is not COOK or rinse-owed is set. -/
def accrueScale (volume : Nat) (s : State) : State :=
  if s.run.kind = .cook ∧ s.water.rinseOwed = false then
    let s1 := noteScale (scaleState s) (s.mapWater fun w => w.accrue volume)
    if s1.water.account - s1.water.savedMg ≥ 500 then saveAccount s1 else s1
  else s

/-! ### Fills (R124 to R129) -/

/-- The operation returns to IDLE; the failure count and the flow count stay readable (R123). -/
def toIdle (s : State) : State := s.mapWater fun w => { w with op := .idle, purpose := .none, attempt := none }

/-- WAIT_TANK is entered and REFILL_TANK raised unless it is open already (R128). A COOK fill that finds the tank NOT_OK in phase
KEEP_WARM raises it there too, although R35 says that no prompt is raised in the phase: DESIGN CHOICE, log entry 21. -/
def enterWaitTank (s : State) : State :=
  let s1 := s.mapWater fun w => { w with op := .waitTank false }
  if promptOpen s1 .refillTank then s1 else raisePrompt .refillTank .water 0 .goOn s1

/-- A fill attempt begins with its tank check (R125). Entering WAIT_TANK from here leaves the flow count of the attempt before,
which a WET level then verifies with (R129 names the count of an interrupted attempt only): DESIGN CHOICE, log entry 19. -/
def beginAttempt (s : State) : State :=
  if tankOk s = false then enterWaitTank s
  else if boilerWet s then s.mapWater fun w => { w with op := .verifying, flow := 0 }
  else s.mapWater fun w => { w with op := .filling, flow := 0 }

/-- A needed fill starts its first attempt (R124). -/
def beginFill (p : Purpose) (s : State) : State :=
  beginAttempt (s.mapWater fun w => { w with purpose := p, failures := 0, attempt := some 1 })

/-- A COOK fill is needed (R124); none begins while the fault hold is set (R131). -/
def cookFillNeeded (s : State) : Bool :=
  s.run.kind = .cook && s.water.steamWanted && !steamDenied s && !boilerWet s && s.water.op = .idle && !s.faults.hold

/-- The test of R124 at the present moment. -/
def fillNeedTest (s : State) : State := if cookFillNeeded s then beginFill .cook s else s

/-- A fill of a FILL step or a FLUSH fill part is requested (R124, R146); a fill begins from IDLE only (R123). -/
def requestStepFill (s : State) : State :=
  if s.water.op = .idle ∧ s.faults.hold = false then beginFill .step s else s

/-- The open REFILL_TANK prompt is withdrawn when WAIT_TANK is left for another reason than its outcome (R58). -/
def withdrawRefill (s : State) : State := withdrawWhere (fun p => p.kind = .refillTank) s

/-- An attempt has failed (R127): a retry after RETRY_WAIT, or the fill has failed for good, FILL_FAILED is raised and the unit
returns to IDLE, where the fill need is tested (R124). The raise is counted until the fault unit has taken it (R156). -/
def failAttempt (s : State) : State :=
  let f := s.water.failures + 1
  if f ≤ s.water.retries then
    s.mapWater fun w => { w with op := .retryWait, failures := f, attempt := w.attempt.map (· + 1) }
  else
    fillNeedTest (toIdle (s.mapWater fun w => { w with failures := f, fillFailedRaises := w.fillFailedRaises + 1 }))

/-! ### Drains (R132, R133) -/

/-- The cool test of R132: a published value below 800 starts pass 1. -/
def coolTest (boil : Option Int) (s : State) : State :=
  if s.water.op = .drainWaitCool ∧ boil.any (fun b => b < 800) = true then
    s.mapWater fun w => { w with op := .draining false }
  else s

/-- A drain begins in DRAIN_WAIT_COOL and tests BOIL at once (R132), as published with any calibration change since the round
applied (DEDUCED, log entry 18). -/
def beginDrain (p : Purpose) (s : State) : State :=
  noteGate (gateWithheld s)
    (coolTest (published s .boil) (s.mapWater fun w => { w with op := .drainWaitCool, purpose := p }))

/-- A waiting request is begun once the operation is IDLE and the hold clear (R131, R132). -/
def beginWaiting (s : State) : State :=
  if s.water.op = .idle ∧ s.faults.hold = false then
    if s.water.stepDrainWaiting then beginDrain .step (s.mapWater fun w => { w with stepDrainWaiting := false })
    else if s.water.drainPending then beginDrain .afterRun s
    else s
  else s

/-- A drain of a DRAIN step or a FLUSH drain part is requested (R132). -/
def requestStepDrain (s : State) : State := beginWaiting (s.mapWater fun w => { w with stepDrainWaiting := true })

/-- The mode controller requests an after-run drain (R132); one pending or in progress makes the request add nothing. -/
def requestAfterRunDrain (s : State) : State :=
  if s.water.drainPending ∨ s.water.op.draining? = true then s
  else beginWaiting (s.mapWater fun w => { w with drainPending := true })

/-- The operation has returned to IDLE: a waiting drain begins, else the fill need is tested (R123, R124, R132). -/
def afterIdle (s : State) : State := fillNeedTest (beginWaiting s)

/-! ### A fill succeeds (R126) -/

/-- The fill's record and accrual; a COOK fill also marks the run for an after-run drain (R170). The hand-over to the run
controller for a STEP fill stands with the run controller. -/
def concludeFill (s : State) : State :=
  let volume := s.water.flow / 2
  let s1 := toIdle (s.mapWater fun w => { w with lastFill := some volume })
  if s.water.purpose = .cook then
    accrueScale volume (s1.mapModes fun c => { c with drainOnEnd := true })
  else s1

/-! ### Steam refused for the rest of the run (R62, R129, R130) -/

/-- The decline mark is set, STEAM_WITHHELD posted, and the fill ends without water. The WATER_CHANGED of the gate (R130) is posted
before STEAM_WITHHELD, as R62 names the gate before it (DEDUCED, log entry 13). -/
def refuseSteam (s : State) : State :=
  toIdle (postAll .steamWithheld (noteGate (gateWithheld s) (s.mapWater fun w => { w with declineMark := true })))

/-! ### The frame test of a COOK run (R124, R129) -/

/-- Steam is wanted by the heating in force at a frame start (R124). -/
def wantsSteam (s : State) : Bool :=
  match heatingInForce s with
  | .row h _ => h.steam > 0 && !steamDenied s
  | .soak => false
  | .off _ => false

/-- At a demand frame start of a COOK run steam wanted is set or cleared, a COOK fill whose need has gone leaves WAIT_TANK, and
the fill need is tested (R124, R129). -/
def frameWaterTest (s : State) : State :=
  if s.run.kind = .cook then
    let s1 := s.mapWater fun w => { w with steamWanted := wantsSteam s }
    if s1.water.steamWanted = false ∧ s1.water.op.waitingTank = true ∧ s1.water.purpose = .cook then
      afterIdle (toIdle (withdrawRefill s1))
    else fillNeedTest s1
  else s

/-! ### Run end and the fault hold (R131) -/

/-- The operation at a run end (R131), before the account is saved. -/
def waterRunEnd (s : State) : State :=
  let s1 :=
    match s.water.op with
    | .idle => s
    | .filling => toIdle s
    | .retryWait => toIdle s
    | .waitTank _ => toIdle s
    | .verifying => if boilerWet s then concludeFill s else toIdle s
    | .drainWaitCool => s.mapWater fun w => { w with purpose := .afterRun }
    | .draining _ => s.mapWater fun w => { w with purpose := .afterRun }
  s1.mapWater fun w => { w with steamWanted := false, stepDrainWaiting := false }

/-- The operation at the entry into the fault hold: stopped, nothing concluded, drain pending left as it was (R131). -/
def stopOperation (s : State) : State :=
  if s.water.op.waitingTank then toIdle (withdrawRefill s) else toIdle s

/-! ### The rinse-owed flag (R150) -/

/-- The flag takes a value; a change posts WATER_CHANGED, and a setting closes the steam gate (R94, R150). -/
def setRinseOwed (v : Bool) (s : State) : State :=
  let s1 := s.mapWater fun w => { w with rinseOwed := v }
  if s.water.rinseOwed = v then s1
  else if v then steamGateClosing (postAll .waterChanged s1)
  else postAll .waterChanged s1

/-- The completion of a descale (R152). -/
def descaleCompletion (s : State) : State :=
  let s1 := s.mapWater fun w =>
    { w with
      account := 0
      remainder := 0
      descaleCount := min (w.descaleCount + 1) 65535
      rinseOwed := false
      savedMg := 0 }
  let s2 := requestSave s1
  if scaleState s = scaleState s1 ∧ s.water.rinseOwed = false then s2 else postAll .waterChanged s2

/-- The completion of a rinse (R153). -/
def rinseCompletion (s : State) : State :=
  postAll .waterChanged (requestSave (s.mapWater fun w => { w with rinseOwed := false }))

end Sys2Proof.Machine
end

