-- ==== Sys2Proof/Machine/RunFlow.lean ====
section
/-! DEFINITION. How a run moves (R26 to R35, R42, R60 to R62), how the appliance mode follows it (R165 to R171), and the entry
into the fault hold (R158 to R160): the shared operations that reach across blocks. -/

namespace Sys2Proof.Machine

/-! ### The mode controller (R165 to R171) -/

/-- The cooling fan's test against a CAV value (R166). -/
def coolingFan (cav : Option Int) (s : State) : State :=
  if s.modes.mode = .afterRun then
    s.mapModes fun c =>
      { c with
        fanOut :=
          if c.cooling = some .cooling ∧ s.pins.doorOpen = false ∧ cav.any (fun v => v > 700) = true then 40 else 0 }
  else s

/-- READY is entered from AFTER_RUN when it is COOLED and no after-run drain is owed (R171). -/
def leaveAfterRun (s : State) : State :=
  if s.modes.mode = .afterRun ∧ s.modes.cooling = some .cooled ∧ drainOwed s = false then
    postAll .modeChanged
      (s.mapModes fun c => { c with mode := .ready, idle := some Config.idleSeconds, cooling := none, fanOut := 0 })
  else s

/-- AFTER_RUN is entered (R170): COOLING, or COOLED when CAV already publishes below 700 (R171); an after-run drain is
requested where called for; then the fan and the end of AFTER_RUN are tested. From STANDBY the entry is a wake (R158). The
latest published CAV value is read with any calibration change since the round applied (DEDUCED, log entry 18). -/
def enterAfterRun (drain : Bool) (s : State) : State :=
  let s1 := if s.modes.mode = .standby then wakeRounds s else s
  let s2 := s1.mapModes fun c =>
    { c with
      mode := .afterRun
      idle := none
      cooling := some (if (published s .cav).any (fun v => v < 700) then .cooled else .cooling) }
  let s3 := if s.modes.mode = .afterRun then s2 else postAll .modeChanged s2
  let s4 := if drain then requestAfterRunDrain s3 else s3
  leaveAfterRun (coolingFan (published s .cav) s4)

/-- STANDBY is entered (R66, R81, R168). A round completed before is still owed to the mode controller where it has not taken it
(DESIGN CHOICE, log entry 10). -/
def enterStandby (s : State) : State :=
  postAll .modeChanged
    ((s.mapMeas fun m => { m with schedule := .after (roundPeriod .standby) }).mapModes fun c =>
      { c with mode := .standby, idle := none, fresh := false, fanOut := 0 })

/-- ACTIVE is entered by a taken start (R169): idle timer and cooling state absent, the drain-on-end mark at the value given, and the
fan with the demand unit. R97 holds it at 0 in PREPARING; of a start that goes straight to RUNNING it gives no output before the
first slot start, and the model puts 0 there too (DESIGN CHOICE, log entry 24). -/
def enterActive (drainOnEnd : Bool) (s : State) : State :=
  let s1 := s.mapModes fun c =>
    { c with mode := .active, idle := none, cooling := none, drainOnEnd := drainOnEnd, fanOut := 0 }
  if s.modes.mode = .active then s1 else postAll .modeChanged s1

/-! ### Frame starts and restarts (R86, R87, R102, R103) -/

/-- A frame start: the demand unit computes, the scheduler forms the frame, and the water unit makes its frame test. The first
frame ADMITTED to steam marks a COOK run for an after-run drain (R170). Where one frame start both posts STEAM_WITHHELD (R93) and
ends a COOK fill in WAIT_TANK (R129), the spec gives STEAM_WITHHELD and PROMPT_CLOSED no order; the model posts STEAM_WITHHELD
first (DESIGN CHOICE, log entry 8). -/
def frameStart (s : State) : State :=
  let d := demandAtFrame s
  let s1 := (s.mapDemand fun _ => d).mapSched fun u => u.formFrame d.requests
  let s2 := if d.steam = .withheld then reportWithheld s1 else s1
  let s3 :=
    if d.steam = .admitted ∧ s.run.kind = .cook then s2.mapModes fun c => { c with drainOnEnd := true } else s2
  frameWaterTest s3

/-- A restart (R87): carried out in RUNNING, and otherwise nothing. -/
def restart (s : State) : State := if s.run.state = .running then frameStart s else s

/-! ### Step entry (R28, R33, R34, R144) -/

/-- The timeout action of INSERT_PROBE (R34). -/
def insertProbeAction (duration : Option Nat) : TimeoutAction := if duration = none then .endRun else .goOn

def hasProbeGuard (g : List Guard) : Bool := g.any fun x => x.sensor = .probe

/-- What the entered step raises or asks of the water unit (R28 effect 5, R33, R34, R144). -/
def stepEntryActions (extended : Bool) (s : State) : State :=
  match s.run.kind with
  | .cook =>
    match s.prog.steps[s.run.stepIdx]? with
    | some (.prompt k t a) => raisePrompt k .step t a s
    | some (.cook _ d g) =>
      if hasProbeGuard g ∧ s.meas.present = false ∧ extended = false then
        raisePrompt .insertProbe .probe 600 (insertProbeAction d) s
      else s
    | some (.preheat _) => s
    | some (.rest _ _) => s
    | none => s
  | .descale | .rinse =>
    match (builtinProgram s.run.kind)[s.run.stepIdx]? with
    | some (.prompt k) => raisePrompt k .step 0 .endRun s
    | some .drain => if s.water.op.draining? then s else requestStepDrain s
    | some .fill => requestStepFill s
    | some .flush => requestStepFill (s.mapRun fun r => { r with flushPart := some .fill })
    | some .soak => s
    | none => s
  | .none => s

/-- A step is entered (R28); the EXTEND return enters with an override (R61). The restart comes after the entry's prompts, as
the worked sequences order them (DEDUCED, log entry 8). -/
def enterStep (i : Nat) (override : Option Nat) (s : State) : State :=
  let s1 := s.mapRun fun r =>
    { r with
      stepIdx := i
      stepElapsed := 0
      durOverride := override
      probeDeclined := false
      flushPart := none
      flushHold := 0
      secondDue := false }
  let s2 := s1.mapDemand fun d => { d with reported := false }
  let s3 := withdrawWhere (fun p => p.source = .step || p.source = .probe) s2
  restart (stepEntryActions override.isSome (postAll .stepAdvanced s3))

/-! ### Run end and advance (R29, R35, R42) -/

/-- The run record at a run end (R42 effect 1). -/
def Run.ended (r : Run) (cause : EndCause) : Run :=
  { r with state := .ended, endCause := some cause, held := none, durOverride := none, flushPart := none }

/-- The after-run drain is called for (R170). -/
def drainCalledFor (finalDrain : Bool) (s : State) : Bool :=
  match s.run.kind with
  | .cook => s.modes.drainOnEnd
  | .descale => !finalDrain
  | .rinse => !finalDrain
  | .none => false

/-- The run ends (R42), having done its final drain or not (R154); a round it has not judged stays so (R11). -/
def runEnd (cause : EndCause) (finalDrain : Bool) (s : State) : State :=
  let s1 := (cutLoads (s.mapRun fun r => r.ended cause)).mapMeas Meas.dropJudgement
  let s2 := noteGate (gateWithheld s) (waterRunEnd (withdrawWhere (fun _ => true) s1))
  let s3 := saveAccount s2
  postAll .runChanged (enterAfterRun (drainCalledFor finalDrain s3) s3)

/-- The KEEP_WARM phase is entered (R35). R35 gives the new frame and STEP_ADVANCED no order; that STEP_ADVANCED is posted before
the frame start, whose water test may close a REFILL_TANK prompt, is the model's reading (DEDUCED, log entry 8). -/
def enterKeepWarm (s : State) : State :=
  restart (postAll .stepAdvanced (s.mapRun fun r => { r with phase := .keepWarm, stepElapsed := 0, secondDue := false }))

/-- The current step ends and the run advances (R29, R47, R152, R153); a step that has ended is not ended again. -/
def advance (s : State) : State :=
  if s.run.state.inStep = true ∧ s.run.phase = .steps then
    if s.run.stepIdx + 1 < programLength s then enterStep (s.run.stepIdx + 1) none s
    else
      match s.run.kind with
      | .cook => if s.run.options.keepWarm then enterKeepWarm s else runEnd .completed false s
      | .descale => runEnd .completed true (descaleCompletion s)
      | .rinse => runEnd .completed true (rinseCompletion s)
      | .none => s
  else s

/-! ### Prompt outcomes (R60 to R62) -/

/-- The run controller takes an outcome of a step-source prompt (R60, R61, R149). A PROMPT step that has ended already, in the
KEEP_WARM phase, is not ended again (R29), and an EXTEND taken there makes no return: the model's reading (DEDUCED, log
entry 9). -/
def stepOutcome (k : PromptKind) (o : PromptOutcome) (a : TimeoutAction) (s : State) : State :=
  if s.run.state.inStep then
    match o with
    | .confirm =>
      if k = .pourAgent then advance (requestSave (setRinseOwed true s)) else advance s
    | .decline => if k = .pourAgent then runEnd .declined false s else advance s
    | .extend => if s.run.phase = .steps then enterStep (s.run.stepIdx - 1) (some Config.extendSeconds) s else s
    | .timeout =>
      match a with
      | .goOn => advance s
      | .endRun => runEnd .promptTimeout false s
    | .withdrawn => s
  else s

/-- The run controller takes an outcome of INSERT_PROBE (R34). -/
def probeOutcome (o : PromptOutcome) (a : TimeoutAction) (s : State) : State :=
  if s.run.state.inStep then
    match o with
    | .confirm => s
    | .decline => s.mapRun fun r => { r with probeDeclined := true }
    | .extend => s
    | .timeout =>
      match a with
      | .goOn => s
      | .endRun => runEnd .promptTimeout false s
    | .withdrawn => s
  else s

/-- REFILL_TANK is confirmed (R62): the attempt begins on an OK tank, and otherwise the 30 s wait. -/
def refillConfirmed (s : State) : State :=
  if s.water.op.waitingTank then
    if tankOk s then beginAttempt s else s.mapWater fun w => { w with op := .waitTank true }
  else s

/-- REFILL_TANK is declined or times out (R62, R129): steam is refused for the rest of the run, and a STEP fill so ended is
not made, which ends the run with the cause of R146. -/
def refillRefused (cause : EndCause) (s : State) : State :=
  if s.water.op.waitingTank then
    let s1 := afterIdle (refuseSteam s)
    if s.water.purpose = .step ∧ s.run.state.inStep = true then runEnd cause false s1 else s1
  else s

/-- The water unit takes an outcome of REFILL_TANK (R62). -/
def waterOutcome (o : PromptOutcome) (s : State) : State :=
  match o with
  | .confirm => refillConfirmed s
  | .decline => refillRefused .declined s
  | .timeout => refillRefused .promptTimeout s
  | .extend => s
  | .withdrawn => s

/-- A prompt closes and its outcome is handed to its raiser (R55). -/
def closeAndDeliver (p : Prompt) (o : PromptOutcome) (b : AnsweredBy) (a : TimeoutAction) (s : State) : State :=
  let s1 := closePrompt p o b s
  match p.source with
  | .step => stepOutcome p.kind o a s1
  | .probe => probeOutcome o a s1
  | .water => waterOutcome o s1

/-- The open prompt of a kind, if any, is closed by a sensor (R56). -/
def sensorClosure (k : PromptKind) (s : State) : State :=
  match s.prompts.list.find? (fun p => p.kind = k) with
  | some p => closeAndDeliver p .confirm .sensor p.action s
  | none => s

/-! ### Water steps (R144 to R147) -/

/-- The run controller takes the success of a STEP fill (R146, R147). -/
def stepFillDone (s : State) : State :=
  if s.run.state.inStep then
    match currentBuiltin s with
    | some .fill => advance s
    | some .flush => s.mapRun fun r => { r with flushPart := some .hold, flushHold := 0 }
    | some .drain => s
    | some .soak => s
    | some (.prompt _) => s
    | none => s
  else s

/-- The run controller takes the success of a STEP drain (R145, R147). -/
def stepDrainDone (s : State) : State :=
  if s.run.state.inStep then
    match currentBuiltin s with
    | some .drain => advance s
    | some .flush => if s.run.flushPart = some .drain then advance s else s
    | some .fill => s
    | some .soak => s
    | some (.prompt _) => s
    | none => s
  else s

/-! ### The fault hold (R158 to R160) -/

/-- The capture record of a fault (R159): CAV, BOIL and the round count are those of the latest completed round. -/
def captureOf (k : FaultKind) (s : State) : Capture where
  kind := k
  runKind := if runActive s then s.run.kind else .none
  stepIdx := if runActive s then some s.run.stepIdx else none
  stepElapsed := if runActive s then some s.run.stepElapsed else none
  cav := s.meas.latest.readings.cav.value
  boil := s.meas.latest.readings.boil.value
  roundCount := s.meas.roundCount

/-- The mode at a fault taken with no run (R158, R170). -/
def faultMode (s : State) : State :=
  match s.modes.mode with
  | .standby => enterAfterRun false s
  | .ready => enterAfterRun false s
  | .active => enterAfterRun false s
  | .afterRun => s

/-- A fault taken while the hold is clear (R158). -/
def enterHold (k : FaultKind) (s : State) : State :=
  let s1 := cutLoads (s.mapFaults fun f => { f with hold := true })
  let s2 := noteGate (gateWithheld s) (stopOperation s1)
  let s3 := s2.mapFaults fun f => { f with capture := some (captureOf k s) }
  postAll .faultEntered (if runActive s then runEnd .fault false s3 else faultMode s3)

/-- A fault taken while the hold is set (R160). -/
def laterFault (k : FaultKind) (s : State) : State :=
  postAll .faultEntered (s.mapFaults fun f => { f with later := min (f.later + 1) 15, lastLater := some k })

/-- A fault is taken (R157, R158, R160). -/
def takeFault (k : FaultKind) (s : State) : State := if s.faults.hold then laterFault k s else enterHold k s

/-! ### Starting a run (R26, R143, R169) -/

/-- The run record a start writes (R26). -/
def Run.started (r : Run) (k : RunKind) (p : Port) (fresh : Bool) : Run where
  kind := k
  state := if fresh then .running else .preparing
  phase := .steps
  stepIdx := 0
  stepElapsed := 0
  runElapsed := 0
  held := none
  durOverride := none
  probeDeclined := false
  preheatMark := false
  startedBy := some p
  endCause := none
  flushPart := none
  flushHold := 0
  secondDue := false
  options := r.options
  consent := r.consent

/-- A start is taken, its own drain rule given (R26, R143, R169): the notices go out in the order R26 gives. The WATER_CHANGED of a
change of the gate (R130) has no place in that order: it is posted last, after the STEP_ADVANCED, PROMPT_RAISED and STEAM_WITHHELD
(R93) of an entered step 0 (DESIGN CHOICE, log entry 13). -/
def beginRun (k : RunKind) (p : Port) (drains : State → State) (drainOnEnd : Bool) (s : State) : State :=
  let s1 := postAll .runChanged
    (((s.mapRun fun r => r.started k p s.modes.fresh).mapSched Sched.clearBases).mapWater fun w =>
      { w with declineMark := false })
  let s2 := enterActive drainOnEnd (drains s1)
  noteGate (gateWithheld s) (if s.modes.fresh then enterStep 0 none s2 else s2)

/-- The program steams: a step with a stored steam level above 0 (R25 check 6). -/
def Step.steams : Step → Bool
  | .preheat h => h.steam > 0
  | .cook h _ _ => h.steam > 0
  | .prompt _ _ _ => false
  | .rest _ _ => false

def programSteams (s : State) : Bool := s.prog.steps.any Step.steams

/-- An after-run drain is dropped (R169). -/
def dropDrain (s : State) : State :=
  let s1 := s.mapWater fun w => { w with drainPending := false }
  if s.water.op.draining? then toIdle s1 else s1

/-- An after-run drain is taken over by step 0 (R143). -/
def takeOverDrain (s : State) : State :=
  s.mapWater fun w =>
    { w with drainPending := false, purpose := if w.op.draining? then .step else w.purpose }

end Sys2Proof.Machine
end

