-- ==== Sys2Proof/Machine/StoreOps.lean ====
section
/-! DEFINITION. The store unit (R172 to R181) and the three resets (R48, R63, R84, R100, R120, R140, R164, R165, R181, R196). -/

namespace Sys2Proof.Machine

/-! ### Writes in flight (R174 to R179) -/

/-- The library with one slot replaced. -/
def setSlot (n : Nat) (x : Slot) (u : StoreUnit) : StoreUnit := { u with slots := u.slots.set n x }

/-- The write in flight has completed: a pending save begins, or none is in flight (R174). -/
def endFlight (s : State) : State :=
  if s.store.savePending then beginSave false (s.mapStore fun u => { u with savePending := false })
  else s.mapStore fun u => { u with flight := none }

/-- A recipe write to a slot completes (R177): slot state, last-write record, STORE_DONE, then the flight ends. -/
def completeRecipe (n : Nat) (p : Port) (erase ok : Bool) (x : Slot) (s : State) : State :=
  endFlight
    (postTo p .storeDone
      (s.mapStore fun u =>
        { setSlot n (if ok then x else .corrupt) u with
          lastWrite := u.lastWrite.modify p fun _ => some { slot := n, erase := erase, ok := ok } }))

/-- A save completes (R179): a failed first save sets save-pending, and the save that then begins is a retry. -/
def completeSave (r : AppRecord) (retry ok : Bool) (s : State) : State :=
  let s1 := s.mapStore fun u => { u with saveResult := some ok, record := if ok then some r else none }
  if ok = false ∧ retry = false then
    beginSave true (s1.mapStore fun u => { u with savePending := false })
  else endFlight s1

/-- A recipe store or erase to this slot is in flight (R16, R178). -/
def writingSlot (u : StoreUnit) (n : Nat) : Bool :=
  match u.flight with
  | some (.store m _ _) => m = n
  | some (.erase m _) => m = n
  | some (.save _ _) => false
  | none => false

/-- The slot's contents; a number past the library reads as CORRUPT and is refused before it is used. -/
def slotAt (u : StoreUnit) (n : Nat) : Slot := u.slots.getD n .corrupt

/-! ### Power lost or a line reset during a write (R181) -/

/-- The store as a write cut off in flight leaves it. -/
def StoreUnit.cutOff (u : StoreUnit) : StoreUnit :=
  match u.flight with
  | some (.store n _ _) => setSlot n .corrupt u
  | some (.erase n _) => setSlot n .corrupt u
  | some (.save _ _) => { u with record := none }
  | none => u

/-! ### Restore (R180) -/

/-- The settings of a record are handed to their owners (R179, R180). -/
def restoreRecord (r : AppRecord) (s : State) : State :=
  let cfg (c : EntryConfig) (e : Entry) : Entry :=
    { e with ratedW := c.ratedW, enabled := c.enabled, rampStep := c.rampStep }
  let s1 := s.mapWater fun w =>
    { w with
      hardness := r.hardness
      scaleLimit := r.scaleLimit
      account := r.account
      savedMg := r.account
      descaleCount := r.descaleCount
      rinseOwed := r.rinseOwed
      retries := r.retries }
  let s2 := s1.mapSched fun u =>
    { u with
      limit := r.limit
      mode := r.mode
      manual := r.manual
      floor := r.floor
      volts := r.volts
      scan := r.scan
      entries := r.entries.zip u.entries cfg }
  let s3 := s2.mapSched Sched.cleared
  s3.mapMeas fun m =>
    { m with
      channels := {
        cav := { m.channels.cav with offset := r.offsets.cav }
        vent := { m.channels.vent with offset := r.offsets.vent }
        probe := { m.channels.probe with offset := r.offsets.probe }
        boil := { m.channels.boil with offset := r.offsets.boil } } }

/-- The part before the restore: every block at its power-on values, the library as the check of every slot finds it, the
inputs as they stand, and the queue as it was. -/
def blank (cause : ResetCause) (pins : Pins) (u : StoreUnit) (pending : List Instr) : State :=
  { State.reset with
    pins := pins
    modes := { State.reset.modes with resetCause := cause }
    store := { State.reset.store with slots := u.slots, record := u.record }
    pending := pending }

/-- A port after any reset (R196): its buffers and notices cleared, and a write in progress abandoned. -/
def PortRec.abandon (r : PortRec) : PortRec :=
  { PortRec.atReset with write := if r.write = .none then .none else .abandoned }

/-- A power-on or line reset (R180): the restore, with the default fallback where the record fails its checksum. With a valid record
no WATER_CHANGED is posted, whatever scale state the restored account gives: R135 has each change of state post, the restore among
its evaluations, and R196 leaves the notice sets empty (DESIGN CHOICE, log entry 25). -/
def fullReset (cause : ResetCause) (pins : Pins) (s : State) : State :=
  let u := s.store.cutOff
  let s1 := (blank cause pins u s.pending).mapPorts fun _ => s.ports.map PortRec.abandon
  match u.record with
  | some r => restoreRecord r s1
  | none => requestSave (postAll .waterChanged (restoreRecord AppRecord.defaults s1))

/-! ### Command reset -/

/-- The run controller at a command reset (R48). -/
def Run.commandReset (r : Run) : Run :=
  { r with
    state := .idle
    endCause := if r.state.active then some .reset else r.endCause
    probeDeclined := false
    flushPart := none
    flushHold := 0
    secondDue := false
    held := none
    durOverride := none
    options := { light := false, keepWarm := false, fastPreheat := false, eco := false }
    consent := false }

/-- The water unit at a command reset (R140). A FILL_FAILED or DRAIN_FAILED raised and not yet taken is dropped: DESIGN CHOICE,
log entry 11. -/
def Water.commandReset (w : Water) : Water :=
  { w with
    op := .idle
    purpose := .none
    attempt := none
    failures := 0
    flow := 0
    drainPending := false
    steamWanted := false
    declineMark := false
    stepDrainWaiting := false
    fillFailedRaises := 0
    drainFailedRaises := 0 }

/-- A command reset (R191): each block as its own chapter gives; the store is not touched (R181). -/
def commandReset (s : State) : State where
  pins := s.pins
  ports := s.ports.map fun r => { r.abandon with notices := [.modeChanged] }
  prog := s.prog
  run := s.run.commandReset
  prompts := { list := [], history := [], nextId := 1 }
  meas := s.meas.cleared
  demand := State.reset.demand
  sched := s.sched.cleared
  water := s.water.commandReset
  faults := { s.faults with tripped := State.reset.faults.tripped }
  modes := {
    mode := .ready
    idle := some Config.idleSeconds
    fresh := false
    cooling := none
    drainOnEnd := false
    resetCause := .command
    fanOut := 0 }
  store := s.store
  pending := s.pending

end Sys2Proof.Machine
end

