-- ==== Sys2Proof/Machine/Queries.lean ====
section
/-! DEFINITION. The reading commands: the nine GET_ commands (R17, R20, R59, R82, R99, R119, R139, R163, R189, R194, R195) and
RECIPE_READ (R178), with their payloads. -/

namespace Sys2Proof.Machine

/-- What every meaning answers. -/
abbrev StepResult := Host.Outcome State Fault Refusal

/-! ### GET_STATUS (R194) -/

/-- The slot-state table, two bits a slot, four slots a byte, slot 0 in the low bits. -/
def slotTable : List Slot → List Byte
  | a :: b :: c :: d :: rest =>
    (slotCode a ||| (slotCode b <<< 2) ||| (slotCode c <<< 4) ||| (slotCode d <<< 6)) :: slotTable rest
  | _ => []

/-- The flag byte of R194. R194 names no value for bits 5 to 7; they read 0 (DESIGN CHOICE, log entry 22). -/
def statusFlags (s : State) : Byte :=
  BitVec.ofNat 8 ((if s.modes.fresh then 1 else 0) + (if lightOn s then 2 else 0) + (if s.faults.hold then 4 else 0)
    + (if s.run.consent then 8 else 0) + (if s.water.rinseOwed then 16 else 0))

def lastWriteBytes : Option LastWrite → List Byte
  | none => [255, 0]
  | some w => [BitVec.ofNat 8 w.slot, (if w.erase then 2 else 1) + (if w.ok then 0x10 else 0x20)]

/-- The status payload of a port, 22 bytes. -/
def statusPayload (p : Port) (s : State) : List Byte :=
  [applianceModeCode s.modes.mode, runStateCode s.run.state, runKindCode s.run.kind] ++ byteOf s.run.stepIdx
    ++ le16OrAbsent s.modes.idle ++ codeOrAbsent coolingCode s.modes.cooling ++ [statusFlags s] ++ byteOf s.modes.fanOut
    ++ [resetCauseCode s.modes.resetCause] ++ byteOf s.prog.steps.length ++ [originByte s.prog.origin]
    ++ [scaleStateCode (scaleState s)] ++ slotTable s.store.slots ++ lastWriteBytes (s.store.lastWrite.get p)
    ++ codeOrAbsent (fun ok : Bool => if ok then 1 else 2) s.store.saveResult

/-! ### GET_RUN (R20, R192) -/

def runPayload (s : State) : List Byte :=
  [runKindCode s.run.kind, runStateCode s.run.state, phaseCode s.run.phase] ++ byteOf s.run.stepIdx
    ++ le16 s.run.stepElapsed ++ le16 s.run.runElapsed ++ le16OrAbsent s.run.held ++ le16OrAbsent s.run.durOverride
    ++ [boolByte s.run.probeDeclined, boolByte s.run.preheatMark] ++ codeOrAbsent portCode s.run.startedBy
    ++ codeOrAbsent endCauseCode s.run.endCause ++ [boolByte s.run.consent, optionsByte s.run.options]
    ++ codeOrAbsent flushPartCode s.run.flushPart

/-! ### GET_STEP (R17, R193) -/

def stepHeader (s : State) : List Byte := byteOf s.prog.steps.length ++ [originByte s.prog.origin]

def getStepReply (index : Byte) (s : State) : Reply :=
  match s.prog.steps[index.toNat]? with
  | some x => { status := .ok, payload := stepHeader s ++ stepBytes x, state := s }
  | none => { status := .index, payload := stepHeader s, state := s }

/-! ### GET_SENSORS (R82) -/

def channelPayload (s : State) (c : Channel) : List Byte :=
  [conditionCode (s.meas.channels.get c).condition] ++ temperatureOrAbsent (published s c) ++ [boolByte (publishedMark s c)]
    ++ le32OrAbsent (s.meas.channels.get c).resistance ++ temperature (s.meas.channels.get c).offset

/-- A reference count in its two bytes; one that does not fit them is a free value (log entry 3). -/
def countBytes (n : Nat) : List Byte := if n < 65536 then le16 n else halfBytes (Config.wideCountField n)

def referencePayload (r : Reference) : List Byte := countBytes r.count ++ [boolByte r.inRange]

def sensorsPayload (s : State) : List Byte :=
  channelPayload s .cav ++ channelPayload s .vent ++ channelPayload s .probe ++ channelPayload s .boil
    ++ referencePayload s.meas.refA ++ referencePayload s.meas.refB ++ [presenceCode s.meas.present]
    ++ le16 s.meas.pulses ++ le16 s.meas.supplyW ++ byteOf s.sched.volts ++ le32 s.meas.roundCount
    ++ [boolByte s.modes.fresh]

/-! ### GET_LOADS (R99, R119) -/

def demandPayload (d : Demand) : List Byte :=
  byteOrAbsent d.cavityDemand ++ d.requests.toList.flatMap byteOf ++ byteOf d.fanDuty
    ++ [steamConditionCode d.steam, boolByte d.fastApplied]

def entryPayload (e : Entry) : List Byte :=
  le16 e.ratedW ++ [boolByte e.enabled] ++ byteOf e.rampStep ++ byteOf e.request ++ byteOf e.remaining ++ byteOf e.granted
    ++ byteOf e.rampBase ++ [boolByte e.on] ++ byteOf e.shortfall ++ byteOf e.sheds

def loadsPayload (s : State) : List Byte :=
  demandPayload s.demand ++ s.sched.entries.toList.flatMap entryPayload
    ++ [boolByte s.sched.frameRunning] ++ byteOf s.sched.slot
    ++ [budgetModeCode s.sched.mode] ++ le16 s.sched.limit ++ le16 s.sched.floor ++ le16OrAbsent s.sched.manual
    ++ le16 Config.reserveW ++ le16 s.sched.foreign ++ le16 s.sched.computed ++ le16 s.sched.inForce
    ++ [boolByte s.sched.ecoCapped] ++ le16 s.sched.headroom ++ [boolByte s.sched.scan] ++ le16 s.sched.prevW
    ++ le16 s.sched.curW

/-! ### GET_WATER (R139, R192) -/

/-- The pass of a drain, 1 or 2, absent outside DRAINING. -/
def WaterOp.pass : WaterOp → Option Nat
  | .draining second => some (if second then 2 else 1)
  | .idle => none
  | .filling => none
  | .verifying => none
  | .retryWait => none
  | .waitTank _ => none
  | .drainWaitCool => none

def gateReasons (s : State) : Byte :=
  (if gateDeclined s then 1 else 0) + (if gateDraining s then 2 else 0)

def waterPayload (s : State) : List Byte :=
  [boolByte s.pins.tankPresent, tankLevelCode s.pins.tankLevel, tankConditionCode (tankOk s),
    boilerLevelCode s.pins.boilerLevel, waterOpCode s.water.op] ++ byteOrAbsent s.water.attempt
    ++ byteOrAbsent s.water.op.pass ++ byteOf s.water.failures ++ [purposeCode s.water.purpose] ++ le16 s.water.flow
    ++ le16OrAbsent s.water.lastFill ++ [boolByte s.water.drainPending, boolByte s.water.steamWanted]
    ++ [gateCode (gateWithheld s), gateReasons s] ++ le16 s.water.account ++ [scaleStateCode (scaleState s)]
    ++ le16 (warningLevel s.water.scaleLimit) ++ le16 s.water.scaleLimit ++ le16 s.water.hardness ++ le16 s.water.savedMg
    ++ byteOf s.water.retries ++ [boolByte s.water.rinseOwed] ++ le16 s.water.descaleCount

/-! ### GET_FAULT (R163, R195) -/

/-- The captured kind's condition is present in the latest round. -/
def capturedPresent (s : State) : Bool := s.faults.hold && s.faults.capture.any fun c => conditionPresent s c.kind

/-- The TRIPPED byte of R195, which names no value for bits 5 to 7; they read 0 (DESIGN CHOICE, log entry 22). -/
def trippedByte (t : Tripped) : Byte :=
  BitVec.ofNat 8 ((if t.reference then 1 else 0) + (if t.cavityOvertemp then 2 else 0) + (if t.cavitySensor then 4 else 0)
    + (if t.boilerOvertemp then 8 else 0) + (if t.boilerSensor then 16 else 0))

/-- Bytes 1 to 13: the capture record, or its absence. -/
def capturePayload : Option Capture → List Byte
  | none => [0, 0, 255] ++ le16OrAbsent none ++ temperatureOrAbsent none ++ temperatureOrAbsent none ++ le32OrAbsent none
  | some c =>
    [faultKindCode c.kind, runKindCode c.runKind] ++ byteOrAbsent c.stepIdx ++ le16OrAbsent c.stepElapsed
      ++ temperatureOrAbsent c.cav ++ temperatureOrAbsent c.boil ++ le32 c.roundCount

/-- The fault payload, 17 bytes. R195 names no value for bits 2 to 7 of byte 0; they read 0 (DESIGN CHOICE, log entry 22). -/
def faultPayload (s : State) : List Byte :=
  [BitVec.ofNat 8 ((if s.faults.hold then 1 else 0) + (if capturedPresent s then 2 else 0))]
    ++ capturePayload s.faults.capture ++ byteOf s.faults.later ++ codeOrAbsent faultKindCode s.faults.lastLater
    ++ [trippedByte s.faults.tripped]

/-! ### GET_PROMPTS (R59, R192) -/

def promptPayload (p : Prompt) : List Byte :=
  byteOf p.id ++ [promptKindCode p.kind, sourceCode p.source] ++ le16 p.raisedAt ++ [answerableCode p.kind.isLocal]
    ++ le16 p.timeout ++ [actionCode p.action] ++ le16 p.remaining

def closedPayload (c : Closed) : List Byte :=
  byteOf c.id ++ [promptKindCode c.kind, outcomeCode c.outcome, answeredByCode c.by_]

def promptsPayload (s : State) : List Byte :=
  byteOf s.prompts.list.length ++ s.prompts.list.flatMap promptPayload ++ byteOf s.prompts.history.length
    ++ s.prompts.history.flatMap closedPayload ++ byteOf s.prompts.nextId

/-! ### GET_NOTICES (R189) -/

def noticesPayload (l : List Notice) : List Byte := byteOf l.length ++ l.map noticeCode

/-- The sending port's set is returned and emptied. -/
def noticesReply (p : Port) (s : State) : Reply where
  status := .ok
  payload := noticesPayload (s.ports.get p).notices
  state := s.mapPorts fun q => q.modify p fun r => { r with notices := [] }

/-! ### RECIPE_READ (R178, R193) -/

/-- A refusal carries the slot's state, absent for a slot number past the library (log entry 4). -/
def recipeReadReply (slot part : Byte) (s : State) : Reply :=
  let n := slot.toNat
  let state : List Byte := if n < Config.librarySlots then [slotCode (slotAt s.store n)] else [0]
  let no (st : Status) : Reply := { status := st, payload := state, state := s }
  if n ≥ Config.librarySlots ∨ (part.toNat ≥ Config.programSlots ∧ part ≠ 0xFF) then no .range
  else if writingSlot s.store n then no .storeBusy
  else
    match slotAt s.store n with
    | .empty => no .empty
    | .corrupt => no .corrupt
    | .valid r =>
      if part = 0xFF then
        { status := .ok
          payload := state ++ [categoryCode r.category] ++ byteOf r.steps.length ++ byteOf r.name.length ++ r.name
          state := s }
      else
        match r.steps[part.toNat]? with
        | some x => { status := .ok, payload := state ++ byteOf r.steps.length ++ stepBytes x, state := s }
        | none => no .index

/-! ### The meanings -/

/-- An owner that only reports. -/
def report (payload : State → List Byte) (s : State) : Reply := { status := .ok, payload := payload s, state := s }

def execGetStatus (p : Port) (s : State) : StepResult :=
  .next (quietCommand p 0x01 .everyPort (report (statusPayload p)) s)

def execGetRun (p : Port) (s : State) : StepResult := .next (quietCommand p 0x02 .everyPort (report runPayload) s)

def execGetStep (p : Port) (index : Byte) (s : State) : StepResult :=
  .next (quietCommand p 0x03 .everyPort (getStepReply index) s)

def execGetSensors (p : Port) (s : State) : StepResult :=
  .next (quietCommand p 0x04 .everyPort (report sensorsPayload) s)

def execGetLoads (p : Port) (s : State) : StepResult := .next (quietCommand p 0x05 .everyPort (report loadsPayload) s)

def execGetWater (p : Port) (s : State) : StepResult := .next (quietCommand p 0x06 .everyPort (report waterPayload) s)

def execGetFault (p : Port) (s : State) : StepResult := .next (quietCommand p 0x07 .everyPort (report faultPayload) s)

def execGetPrompts (p : Port) (s : State) : StepResult :=
  .next (quietCommand p 0x08 .everyPort (report promptsPayload) s)

def execGetNotices (p : Port) (s : State) : StepResult := .next (quietCommand p 0x09 .everyPort (noticesReply p) s)

def execRecipeRead (p : Port) (slot part : Byte) (s : State) : StepResult :=
  .next (command p 0x0A .everyPort (recipeReadReply slot part) s)

end Sys2Proof.Machine
end

