-- ==== Sys2Proof/Machine/ProgramCmds.lean ====
section
/-! DEFINITION. The program commands PROGRAM_PUT_STEP, PROGRAM_CLEAR and PROGRAM_LOAD (R12 to R16), and the recipe writes
RECIPE_STORE and RECIPE_ERASE (R175, R176). -/

namespace Sys2Proof.Machine

/-- The table with a record replaced at an index below the length, or appended at the length (R13). -/
def putRecord (i : Nat) (x : Step) (g : Program) : Program where
  steps := if i < g.steps.length then g.steps.set i x else g.steps ++ [x]
  origin := .edited

/-- PROGRAM_PUT_STEP (R12, R13). A refusal with INDEX carries no payload, as R186 gives for a refusal whose rule names none, although
the procedure at the end of spec/01 has a master read the length from it (DESIGN CHOICE, log entry 23). -/
def putStepReply (index : Byte) (w : StepWire) (s : State) : Reply :=
  let i := index.toNat
  if i ≥ Config.programSlots ∨ i > s.prog.steps.length then refuse .index s
  else if cookActive s = true ∧ i ≤ s.run.stepIdx then refuse .busy s
  else
    match stepOfWire w with
    | none => refuse .invalidStep s
    | some x =>
      if stepInRange x then
        let s1 := s.mapProg (putRecord i (clampStep x))
        { status := if stepClamped x then .clamped else .ok, payload := byteOf s1.prog.steps.length, state := s1 }
      else refuse .range s

/-- PROGRAM_CLEAR (R15). -/
def clearReply (s : State) : Reply :=
  if runActive s then refuse .busy s else done .ok (s.mapProg fun _ => { steps := [], origin := .none })

/-- PROGRAM_LOAD (R16). -/
def loadReply (slot : Byte) (s : State) : Reply :=
  let n := slot.toNat
  if n ≥ Config.librarySlots then refuse .range s
  else if runActive s then refuse .busy s
  else if writingSlot s.store n then refuse .storeBusy s
  else
    match slotAt s.store n with
    | .empty => refuse .empty s
    | .corrupt => refuse .corrupt s
    | .valid r => done .ok (s.mapProg fun _ => { steps := r.steps, origin := .slot n })

/-- A character from space to tilde (R173). -/
def printable (b : Byte) : Bool := 0x20 ≤ b.toNat && b.toNat ≤ 0x7E

/-- A recipe name: 1 to 16 printable characters (R173, R175). -/
def nameOk (name : List Byte) : Bool := !name.isEmpty && name.length ≤ 16 && name.all printable

/-- A factory slot written from the panel or the link (R175, R176). -/
def writeProtected (p : Port) (n : Nat) : Bool := n < Config.factorySlots && p ≠ .service

/-- RECIPE_STORE (R175). -/
def storeReply (p : Port) (slot category : Byte) (name : List Byte) (s : State) : Reply :=
  let n := slot.toNat
  match categoryOf category with
  | none => refuse .range s
  | some c =>
    if n ≥ Config.librarySlots ∨ nameOk name = false then refuse .range s
    else if writeProtected p n then refuse .isProtected s
    else if s.prog.steps.isEmpty then refuse .empty s
    else if s.store.flight.isSome then refuse .storeBusy s
    else
      done .accepted
        (s.mapStore fun u => { u with flight := some (.store n { name := name, category := c, steps := s.prog.steps } p) })

/-- RECIPE_ERASE (R176). -/
def eraseReply (p : Port) (slot : Byte) (s : State) : Reply :=
  let n := slot.toNat
  if n ≥ Config.librarySlots then refuse .range s
  else if writeProtected p n then refuse .isProtected s
  else if s.store.flight.isSome then refuse .storeBusy s
  else done .accepted (s.mapStore fun u => { u with flight := some (.erase n p) })

def execProgramPutStep (p : Port) (index : Byte) (w : StepWire) (s : State) : StepResult :=
  .next (command p 0x10 .everyPort (putStepReply index w) s)

def execProgramClear (p : Port) (s : State) : StepResult := .next (command p 0x11 .everyPort clearReply s)

def execProgramLoad (p : Port) (slot : Byte) (s : State) : StepResult :=
  .next (command p 0x12 .everyPort (loadReply slot) s)

def execRecipeStore (p : Port) (slot category : Byte) (name : List Byte) (s : State) : StepResult :=
  .next (command p 0x50 .everyPort (storeReply p slot category name) s)

def execRecipeErase (p : Port) (slot : Byte) (s : State) : StepResult :=
  .next (command p 0x51 .everyPort (eraseReply p slot) s)

end Sys2Proof.Machine
end

