-- ==== Sys2Proof/Machine/RunCmds.lean ====
section
/-! DEFINITION. The commands that act on a run: START, PAUSE, RESUME, STOP, ADJUST, SKIP, the option commands, ANSWER and remote
consent (R22, R25, R26, R38, R39, R41, R43 to R46, R53), DESCALE_START and RINSE_START (R142, R143). -/

namespace Sys2Proof.Machine

/-- The option set is replaced; START posts OPTIONS_CHANGED where the set differs (R26). -/
def replaceOptions (o : Options) (s : State) : State :=
  let s1 := s.mapRun fun r => { r with options := o }
  if s.run.options = o then s1 else postAll .optionsChanged s1

/-- The COOK start's rule for an after-run drain (R169): kept by a program that steams, dropped otherwise. -/
def cookDrains (s : State) : State := if programSteams s then s else dropDrain s

/-- The drain-on-end mark a COOK start leaves (R169, R170): set where it drops an after-run drain. -/
def markAtStart (s : State) : Bool := !programSteams s && (s.water.drainPending || s.water.op.draining?)

/-- START (R25, R26). -/
def startReply (p : Port) (options : Byte) (s : State) : Reply :=
  match optionsOf options with
  | none => refuse .range s
  | some o =>
    if s.faults.hold then refuse .faultHold s
    else if runActive s then refuse .busy s
    else if s.prog.steps.isEmpty then refuse .empty s
    else if s.pins.doorOpen then refuse .doorOpen s
    else if p = .link ∧ s.run.consent = false then refuse .consentRequired s
    else if s.water.rinseOwed = true ∧ programSteams s = true then refuse .rinseRequired s
    else done .ok (beginRun .cook p cookDrains (markAtStart s) (replaceOptions o s))

/-- A held state is entered from RUNNING, or PAUSED from DOOR_HELD (R36, R37, R38); a round completed before is not judged
after it (R11). -/
def enterHeld (st : RunState) (s : State) : State :=
  postAll .runChanged
    ((holdOutputs (s.mapRun fun r => { r with state := st, held := some 0 })).mapMeas Meas.dropJudgement)

/-- PAUSE (R38). -/
def pauseReply (s : State) : Reply :=
  match s.run.state with
  | .running => done .ok (enterHeld .paused s)
  | .doorHeld => done .ok (enterHeld .paused s)
  | .idle => refuse .busy s
  | .preparing => refuse .busy s
  | .paused => refuse .busy s
  | .ended => refuse .busy s

/-- The run returns to RUNNING with a new frame (R37, R39). RUN_CHANGED is posted before the frame start, which may post
STEAM_WITHHELD, PROMPT_RAISED or PROMPT_CLOSED (R23, R93, R128, R129 give them no order: DESIGN CHOICE, log entry 13). -/
def returnToRunning (s : State) : State :=
  restart (postAll .runChanged (s.mapRun fun r => { r with state := .running, held := none }))

/-- RESUME (R39). -/
def resumeReply (p : Port) (s : State) : Reply :=
  if s.run.state ≠ .paused then refuse .busy s
  else if s.pins.doorOpen then refuse .doorOpen s
  else if p = .link ∧ s.run.consent = false then refuse .consentRequired s
  else done .ok (returnToRunning s)

/-- STOP (R41). -/
def stopReply (s : State) : Reply :=
  if runActive s then
    done .ok (runEnd (if s.run.phase = .keepWarm then .completed else .stopped) false s)
  else refuse .stale s

/-! ### ADJUST (R43, R44) -/

/-- The step carries the field (R43 check 4). -/
def carries : Step → AdjustField → Bool
  | .preheat _, f => f ≠ .duration
  | .cook _ _ _, _ => true
  | .prompt _ _ _, _ => false
  | .rest _ _, f => f = .fan || f = .duration

/-- The heating part with one field adjusted (R44); the low byte is the value of STEAM and FAN (R192). -/
def adjustHeat (f : AdjustField) (value : Half) (h : Heat) : Heat :=
  let low := (value.setWidth 8).toNat
  match f with
  | .setpoint => { h with setpoint := clampSetpoint h.mode value.toInt }
  | .steam => { h with steam := clampSteam h.mode low }
  | .fan => { h with fan := clampFan (shareRow h.mode).fan low }
  | .duration => h

/-- The record with one field adjusted (R44). -/
def adjustStep (f : AdjustField) (value : Half) : Step → Step
  | .preheat h => .preheat (adjustHeat f value h)
  | .cook h d g => .cook (adjustHeat f value h) (if f = .duration then some value.toNat else d) g
  | .prompt k t a => .prompt k t a
  | .rest fan d =>
    .rest (if f = .fan then clampFan 0 (value.setWidth 8).toNat else fan) (if f = .duration then value.toNat else d)

/-- The stored value differs from the written one (R44); a resolved default is no clamp (R6). -/
def adjustClamped (f : AdjustField) (value : Half) (x : Step) : Bool :=
  let low := (value.setWidth 8).toNat
  let heatClamp (h : Heat) : Bool :=
    match f with
    | .setpoint => clampSetpoint h.mode value.toInt ≠ value.toInt
    | .steam => clampSteam h.mode low ≠ low
    | .fan => fanClamped low
    | .duration => false
  match x with
  | .preheat h => heatClamp h
  | .cook h _ _ => heatClamp h
  | .prompt _ _ _ => false
  | .rest _ _ => f = .fan && fanClamped low

/-- The record has a stored steam level of 0 (R43 check 6). -/
def dryRecord : Step → Bool
  | .preheat h => h.steam = 0
  | .cook h _ _ => h.steam = 0
  | .prompt _ _ _ => true
  | .rest _ _ => true

/-- An adjusted duration also governs a present override, and its comparison waits for the next second (R44). -/
def adjustRunDuration (value : Half) (r : Run) : Run :=
  { r with durOverride := r.durOverride.map fun _ => value.toNat, secondDue := false }

/-- A taken ADJUST (R44): the record edited, the origin EDITED, and for the current step a new frame. -/
def adjustTaken (i : Nat) (f : AdjustField) (value : Half) (x : Step) (s : State) : State :=
  let s1 := s.mapProg fun g => { steps := g.steps.set i (adjustStep f value x), origin := .edited }
  if i = s.run.stepIdx then
    restart (if f = .duration then s1.mapRun (adjustRunDuration value) else s1)
  else s1

/-- ADJUST (R43, R44). -/
def adjustReply (index field : Byte) (value : Half) (s : State) : Reply :=
  let i := index.toNat
  if cookActive s = false ∨ s.run.phase ≠ .steps then refuse .stale s
  else if i < s.run.stepIdx then refuse .stale s
  else
    match s.prog.steps[i]? with
    | none => refuse .index s
    | some x =>
      match adjustFieldOf field with
      | none => refuse .invalidStep s
      | some f =>
        if carries x f = false then refuse .invalidStep s
        else if f = .duration ∧ durationInRange value.toNat = false then refuse .range s
        else if f = .steam ∧ s.water.rinseOwed = true ∧ dryRecord x = true ∧ (value.setWidth 8).toNat > 0 then
          refuse .rinseRequired s
        else done (if adjustClamped f value x then .clamped else .ok) (adjustTaken i f value x s)

/-- SKIP (R45). -/
def skipReply (index : Byte) (s : State) : Reply :=
  if cookActive s = false ∨ s.run.phase ≠ .steps ∨ index.toNat ≠ s.run.stepIdx then refuse .stale s
  else if s.run.state = .preparing then refuse .busy s
  else done .ok (advance s)

/-! ### Options (R46) -/

def combineOptions (f : Bool → Bool → Bool) (o named : Options) : Options where
  light := f o.light named.light
  keepWarm := f o.keepWarm named.keepWarm
  fastPreheat := f o.fastPreheat named.fastPreheat
  eco := f o.eco named.eco

/-- An option command (R46): a code that is no option, or an empty list (R192), is refused with RANGE. -/
def optionsReply (f : Bool → Bool → Bool) (options : Byte) (s : State) : Reply :=
  match optionsOf options with
  | none => refuse .range s
  | some named =>
    if options.toNat = 0 then refuse .range s
    else
      let o := combineOptions f s.run.options named
      { status := .ok
        payload := [optionsByte o]
        state := postAll .optionsChanged (s.mapRun fun r => { r with options := o }) }

/-! ### ANSWER (R53, R54) -/

def answeredByOf : Port → AnsweredBy
  | .panel => .panel
  | .link => .link
  | .service => .service

def outcomeOf : Answer → PromptOutcome
  | .confirm => .confirm
  | .decline => .decline
  | .extend => .extend

/-- The step just below the PROMPT step's index is a COOK step of the program table (R53 check 4). -/
def extendPossible (s : State) : Bool :=
  match s.run.stepIdx with
  | 0 => false
  | i + 1 =>
    match s.prog.steps[i]? with
    | some (.cook _ _ _) => true
    | some (.preheat _) => false
    | some (.prompt _ _ _) => false
    | some (.rest _ _) => false
    | none => false

/-- ANSWER (R53, R54). -/
def answerReply (p : Port) (id ans : Byte) (s : State) : Reply :=
  match s.prompts.list.find? (fun q => q.id = id.toNat) with
  | none => refuse .stale s
  | some q =>
    if q.kind.isLocal = true ∧ p = .link then refuse .notPermitted s
    else
      match answerOf ans with
      | none => refuse .invalidAnswer s
      | some a =>
        if q.kind.accepts a = false then refuse .invalidAnswer s
        else if a = .extend ∧ extendPossible s = false then refuse .invalidAnswer s
        else done .ok (closeAndDeliver q (outcomeOf a) (answeredByOf p) q.action s)

/-! ### Remote consent (R22) -/

def consentArmReply (s : State) : Reply :=
  if s.pins.doorOpen then refuse .doorOpen s else done .ok (s.mapRun fun r => { r with consent := true })

def consentDropReply (s : State) : Reply := done .ok (s.mapRun fun r => { r with consent := false })

/-! ### Built-in starts (R142, R143) -/

/-- A built-in start, the check of due-ness given (R142 check 4). -/
def builtinStartReply (k : RunKind) (p : Port) (due : Bool) (s : State) : Reply :=
  if s.faults.hold then refuse .faultHold s
  else if runActive s then refuse .busy s
  else if s.pins.doorOpen then refuse .doorOpen s
  else if due = false then refuse .notDue s
  else done .ok (beginRun k p takeOverDrain false s)

/-- A descale is due, from the panel port, unless the scale state is CLEAR; from the service port always (R142). -/
def descaleDue (p : Port) (s : State) : Bool := p = .service || scaleState s ≠ .clear

/-! ### The meanings -/

def execStart (p : Port) (options : Byte) (s : State) : StepResult :=
  .next (command p 0x20 .everyPort (startReply p options) s)

def execPause (p : Port) (s : State) : StepResult := .next (command p 0x21 .everyPort pauseReply s)

def execResume (p : Port) (s : State) : StepResult := .next (command p 0x22 .everyPort (resumeReply p) s)

def execStop (p : Port) (s : State) : StepResult := .next (command p 0x23 .everyPort stopReply s)

def execAdjust (p : Port) (index field : Byte) (value : Half) (s : State) : StepResult :=
  .next (command p 0x24 .everyPort (adjustReply index field value) s)

def execSkip (p : Port) (index : Byte) (s : State) : StepResult := .next (command p 0x25 .everyPort (skipReply index) s)

def execOptSet (p : Port) (options : Byte) (s : State) : StepResult :=
  .next (command p 0x26 .everyPort (optionsReply (fun o n => o || n) options) s)

def execOptClear (p : Port) (options : Byte) (s : State) : StepResult :=
  .next (command p 0x27 .everyPort (optionsReply (fun o n => o && !n) options) s)

def execOptToggle (p : Port) (options : Byte) (s : State) : StepResult :=
  .next (command p 0x28 .everyPort (optionsReply (fun o n => xor o n) options) s)

def execAnswer (p : Port) (id ans : Byte) (s : State) : StepResult :=
  .next (command p 0x29 .everyPort (answerReply p id ans) s)

def execConsentArm (p : Port) (s : State) : StepResult := .next (command p 0x30 .panelOnly consentArmReply s)

def execConsentDrop (p : Port) (s : State) : StepResult := .next (command p 0x31 .panelOnly consentDropReply s)

def execDescaleStart (p : Port) (s : State) : StepResult :=
  .next (command p 0x41 .notLink (fun t => builtinStartReply .descale p (descaleDue p t) t) s)

def execRinseStart (p : Port) (s : State) : StepResult :=
  .next (command p 0x42 .notLink (fun t => builtinStartReply .rinse p t.water.rinseOwed t) s)

end Sys2Proof.Machine
end

