-- ==== Sys2Proof/Machine/SettingCmds.lean ====
section
/-! DEFINITION. CLEAR_FAULT (R162), the setting commands (R73, R116 to R118, R137, R138), STANDBY (R168) and RESET (R191). -/

namespace Sys2Proof.Machine

/-- Every round-sourced kind ARMED. -/
def armedAll : Tripped where
  reference := false
  cavityOvertemp := false
  cavitySensor := false
  boilerOvertemp := false
  boilerSensor := false

/-- The captured kind's condition-present test (R162 check 2). -/
def captureBlocks (s : State) : Bool := s.faults.capture.any fun c => conditionPresent s c.kind

/-- CLEAR_FAULT (R162): a drain waiting in drain pending then begins. -/
def clearFaultReply (s : State) : Reply :=
  if s.faults.hold = false then refuse .stale s
  else if captureBlocks s then refuse .conditionPresent s
  else
    done .ok
      (beginWaiting
        (postAll .faultEntered
          (s.mapFaults fun _ => { hold := false, capture := none, later := 0, lastLater := none, tripped := armedAll })))

/-- SET_HARDNESS (R137). -/
def setHardnessReply (h : Half) (s : State) : Reply :=
  if h.toNat > 500 ∨ h.toNat % 10 ≠ 0 then refuse .range s
  else done .ok (requestSave (s.mapWater fun w => { w with hardness := h.toNat }))

/-- SET_SCALE_LIMIT (R137): the state is re-evaluated at once (R135). -/
def setScaleLimitReply (mg : Half) (s : State) : Reply :=
  if mg.toNat < 5000 ∨ mg.toNat > 40000 then refuse .range s
  else done .ok (requestSave (noteScale (scaleState s) (s.mapWater fun w => { w with scaleLimit := mg.toNat })))

/-- SET_FILL_RETRIES (R137). -/
def setFillRetriesReply (n : Byte) (s : State) : Reply :=
  if n.toNat > 5 then refuse .range s
  else done .ok (requestSave (s.mapWater fun w => { w with retries := n.toNat }))

/-- SCALE_SET (R138). -/
def scaleSetReply (mg : Half) (s : State) : Reply :=
  done .ok
    (saveAccount (noteScale (scaleState s) (s.mapWater fun w => { w with account := mg.toNat, remainder := 0 })))

/-- The values SET_BUDGET accepts (R116). -/
def budgetAccepted (u : Sched) (m : BudgetMode) (floor : Nat) (manual : Option Nat) : Bool :=
  800 ≤ floor && floor ≤ 3600 && floor ≤ u.limit
    && manual.all (fun v => 800 ≤ v && v ≤ 7400 && v ≤ u.limit)
    && !(m = .manual && manual = none && u.manual = none)

/-- SET_BUDGET (R116). -/
def setBudgetReply (mode : Byte) (floor : Half) (manual : Option Half) (s : State) : Reply :=
  match budgetModeOf mode with
  | none => refuse .range s
  | some m =>
    if budgetAccepted s.sched m floor.toNat (manual.map (·.toNat)) then
      done .ok
        (requestSave
          (s.mapSched fun u =>
            { u with mode := m, floor := floor.toNat, manual := (manual.map (·.toNat)).or u.manual }))
    else refuse .range s

/-- The values SET_SUPPLY accepts (R117). -/
def supplyAccepted (u : Sched) (limit volts : Nat) : Bool :=
  1000 ≤ limit && limit ≤ 7400 && u.floor ≤ limit && u.manual.all (fun v => v ≤ limit) && 200 ≤ volts && volts ≤ 250

/-- SET_SUPPLY (R117). -/
def setSupplyReply (limit : Half) (volts scan : Byte) (s : State) : Reply :=
  match yesNoOf scan with
  | none => refuse .range s
  | some on =>
    if supplyAccepted s.sched limit.toNat volts.toNat then
      done .ok (requestSave (s.mapSched fun u => { u with limit := limit.toNat, volts := volts.toNat, scan := on }))
    else refuse .range s

/-- The configured fields stored; a disabled entry that is on is switched off with its slot given back (R118). -/
def configureEntry (l : Load) (ratedW : Nat) (enabled : Bool) (rampStep : Nat) (u : Sched) : Sched :=
  let v := { u with
    entries := u.entries.modify l fun e => { e with ratedW := ratedW, enabled := enabled, rampStep := rampStep } }
  if enabled then v else v.switchOff l

/-- ELEMENT_CONFIG (R118). -/
def elementConfigReply (entry : Byte) (ratedW : Half) (enabled rampStep : Byte) (s : State) : Reply :=
  match loadOf entry, yesNoOf enabled with
  | some l, some e =>
    if ratedW.toNat < 100 ∨ ratedW.toNat > 3500 ∨ rampStep.toNat > 40 then refuse .range s
    else done .ok (requestSave (s.mapSched (configureEntry l ratedW.toNat e rampStep.toNat)))
  | _, _ => refuse .range s

/-- SET_CAL (R73). -/
def setCalReply (channel offset : Byte) (s : State) : Reply :=
  match channelOf channel with
  | none => refuse .range s
  | some c =>
    if offset.toInt < -50 ∨ offset.toInt > 50 then refuse .range s
    else
      done .ok
        (requestSave
          (s.mapMeas fun m => { m with channels := m.channels.modify c fun r => { r with offset := offset.toInt } }))

/-- STANDBY (R168). -/
def standbyReply (s : State) : Reply :=
  match s.modes.mode with
  | .ready => done .ok (enterStandby s)
  | .standby => refuse .busy s
  | .active => refuse .busy s
  | .afterRun => refuse .busy s

/-! ### The meanings -/

def execClearFault (p : Port) (s : State) : StepResult := .next (command p 0x40 .notLink clearFaultReply s)

def execSetHardness (p : Port) (h : Half) (s : State) : StepResult :=
  .next (command p 0x43 .notLink (setHardnessReply h) s)

def execSetBudget (p : Port) (mode : Byte) (floor : Half) (manual : Option Half) (s : State) : StepResult :=
  .next (command p 0x44 .notLink (setBudgetReply mode floor manual) s)

def execStandby (p : Port) (s : State) : StepResult := .next (quietCommand p 0x45 .notLink standbyReply s)

/-- RESET (R191): refused from the link like any other command; taken, it leaves every response buffer at NO_REQUEST. -/
def execReset (p : Port) (s : State) : StepResult :=
  .next
    (if permits .notLink p then commandReset (heard (takeFrame p s))
     else respond p 0x46 .notPermitted [] (heard (takeFrame p s)))

def execElementConfig (p : Port) (entry : Byte) (ratedW : Half) (enabled rampStep : Byte) (s : State) : StepResult :=
  .next (command p 0x60 .serviceOnly (elementConfigReply entry ratedW enabled rampStep) s)

def execSetSupply (p : Port) (limit : Half) (volts scan : Byte) (s : State) : StepResult :=
  .next (command p 0x61 .serviceOnly (setSupplyReply limit volts scan) s)

def execSetCal (p : Port) (channel offset : Byte) (s : State) : StepResult :=
  .next (command p 0x62 .serviceOnly (setCalReply channel offset) s)

def execScaleSet (p : Port) (mg : Half) (s : State) : StepResult :=
  .next (command p 0x63 .serviceOnly (scaleSetReply mg) s)

def execSetScaleLimit (p : Port) (mg : Half) (s : State) : StepResult :=
  .next (command p 0x64 .serviceOnly (setScaleLimitReply mg) s)

def execSetFillRetries (p : Port) (n : Byte) (s : State) : StepResult :=
  .next (command p 0x65 .serviceOnly (setFillRetriesReply n) s)

end Sys2Proof.Machine
end

