-- ==== Sys2Proof/Machine/PortEvents.lean ====
section
/-! DEFINITION. The port unit's own events (R183, R184), the resets (R180), and the changes of the door, tank and boiler level
inputs (R36, R37, R121, R122). An event whose occasion does not stand leaves the state as it is (log entry 5). -/

namespace Sys2Proof.Machine

/-! ### Frames that carry no command -/

/-- A frame that fails the form checks (R184): status, byte 0 as received, payload length 0; nothing wakes. A write of no byte
takes nothing (R183), and bytes that pass the checks are no failure. -/
def formCheckTaken (p : Port) (bytes : List Byte) (s : State) : State :=
  match bytes, formCheck bytes with
  | code :: _, some st => respond p code st [] (takeFrame p s)
  | _, _ => s

def execFormCheckFailure (p : Port) (bytes : List Byte) (s : State) : StepResult := .next (formCheckTaken p bytes s)

/-- The bytes held are discarded and no frame is taken (R183). -/
def execWriteDiscard (p : Port) (s : State) : StepResult := .next (takeFrame p s)

/-! ### Resets -/

def execPowerOnReset (pins : Pins) (s : State) : StepResult := .next (fullReset .powerOn pins s)

def execLineReset (s : State) : StepResult := .next (fullReset .line s.pins s)

/-! ### The door (R22, R36, R37, R166 to R168) -/

/-- The mode controller takes a door change: a wake, the idle timer set back, the cooling fan tested against the latest published
CAV value, any calibration change since the round applied (DEDUCED, log entry 18). -/
def doorHeard (s : State) : State :=
  let s1 := heard s
  coolingFan (published s1 .cav) s1

/-- The door opens (R22, R36). -/
def doorOpened (s : State) : State :=
  let s1 := (s.mapPins fun x => { x with doorOpen := true }).mapRun fun r => { r with consent := false }
  doorHeard (if s.run.state = .running then enterHeld .doorHeld s1 else s1)

def execDoorOpens (s : State) : StepResult := .next (if s.pins.doorOpen then s else doorOpened s)

/-- The door closes (R37). -/
def doorClosed (s : State) : State :=
  let s1 := s.mapPins fun x => { x with doorOpen := false }
  doorHeard (if s.run.state = .doorHeld then returnToRunning s1 else s1)

def execDoorCloses (s : State) : StepResult := .next (if s.pins.doorOpen then doorClosed s else s)

/-! ### The tank (R121, R128) -/

/-- The tank condition has become OK: the sensor closure of REFILL_TANK (R56), or the attempt within the 30 s wait (R62). -/
def tankBecomesOk (s : State) : State :=
  if promptOpen s .refillTank then sensorClosure .refillTank s
  else if s.water.op = .waitTank true then beginAttempt s
  else s

/-- The tank condition has become NOT_OK: it interrupts FILLING alone (R128). -/
def tankBecomesNotOk (s : State) : State := if s.water.op = .filling then enterWaitTank s else s

/-- A change of the tank inputs (R121). -/
def tankChanged (present : Bool) (level : TankLevel) (s : State) : State :=
  let s1 := s.mapPins fun x => { x with tankPresent := present, tankLevel := level }
  if tankOk s1 = tankOk s then s1
  else if tankOk s1 then tankBecomesOk (postAll .waterChanged s1)
  else tankBecomesNotOk (postAll .waterChanged s1)

def execTankChange (present : Bool) (level : TankLevel) (s : State) : StepResult := .next (tankChanged present level s)

/-! ### The boiler level (R122) -/

/-- The level has become DRY: the BOILER entry is cut (R110), verification fails (R126), and the fill need is tested. -/
def boilerBecomesDry (s : State) : State :=
  let s1 := s.mapSched fun u => u.switchOff .boiler
  if s1.water.op = .verifying then failAttempt s1 else fillNeedTest s1

/-- The level has become WET: verification begins from FILLING and WAIT_TANK (R125, R129), the flow count kept. -/
def boilerBecomesWet (s : State) : State :=
  if s.water.op = .filling then s.mapWater fun w => { w with op := .verifying }
  else if s.water.op.waitingTank then withdrawRefill (s.mapWater fun w => { w with op := .verifying })
  else s

/-- A change of the boiler level input (R122). -/
def boilerLevelChanged (level : BoilerLevel) (s : State) : State :=
  let s1 := postAll .waterChanged (s.mapPins fun x => { x with boilerLevel := level })
  if level = .dry then boilerBecomesDry s1 else boilerBecomesWet s1

def execBoilerLevelChange (level : BoilerLevel) (s : State) : StepResult :=
  .next (if level = s.pins.boilerLevel then s else boilerLevelChanged level s)

end Sys2Proof.Machine
end

