-- ==== Sys2Proof/Machine/WaterEvents.lean ====
section
/-! DEFINITION. The water unit's timed and internal events: the flow meter, the attempt limits, the waits, the drain passes, and
the two raises as the fault unit takes them (R62, R125 to R127, R133, R157). -/

namespace Sys2Proof.Machine

/-- The pulse that brings the count of FILLING to 800 fails the attempt on volume (R125, R127). -/
def volumeReached (s : State) : State := failAttempt (s.mapWater fun w => { w with flow := Config.fillPulseLimit })

/-- A flow meter pulse, counted in FILLING alone (R125); the 800th fails the attempt. -/
def execFlowPulse (s : State) : StepResult :=
  .next
    (if s.water.op = .filling then
      (if s.water.flow + 1 < Config.fillPulseLimit then s.mapWater fun w => { w with flow := w.flow + 1 }
      else volumeReached s)
    else s)

/-- FILL_VOLUME_LIMIT: the flow count reaches 800 in FILLING (R127). It stands for the 800th pulse, so it acts where 799 have
been counted (DESIGN CHOICE, log entry 20). -/
def execFillVolumeLimit (s : State) : StepResult :=
  .next (if s.water.op = .filling ∧ Config.fillPulseLimit ≤ s.water.flow + 1 then volumeReached s else s)

/-- 60 s of FILLING have passed (R127). -/
def execFillTimeLimit (s : State) : StepResult := .next (if s.water.op = .filling then failAttempt s else s)

/-- The 3 s of VERIFYING have passed with the level WET: the fill succeeds (R126) and a STEP fill is handed over. -/
def fillVerified (s : State) : State :=
  let s1 := concludeFill s
  afterIdle (if s.water.purpose = .step then stepFillDone s1 else s1)

/-- The end of the 3 s in VERIFYING (R126). -/
def execVerifyEnd (s : State) : StepResult :=
  .next
    (if s.water.op = .verifying then (if boilerWet s then fillVerified s else failAttempt s) else s)

/-- The end of the 10 s in RETRY_WAIT (R127). -/
def execRetryWaitEnd (s : State) : StepResult := .next (if s.water.op = .retryWait then beginAttempt s else s)

/-- The end of the 30 s wait after a CONFIRM (R62): REFILL_TANK is raised again, or the attempt begins. -/
def execTankWaitEnd (s : State) : StepResult := .next (if s.water.op = .waitTank true then beginAttempt s else s)

/-! ### Drain passes (R133) -/

/-- The drain has succeeded. -/
def drainSucceeded (s : State) : State :=
  let s1 := noteGate (gateWithheld s) (toIdle s)
  afterIdle
    (match s.water.purpose with
    | .afterRun => leaveAfterRun (s1.mapWater fun w => { w with drainPending := false })
    | .step => stepDrainDone s1
    | .cook => s1
    | .none => s1)

/-- The drain has failed: DRAIN_FAILED is raised, counted until the fault unit has taken it (R156), and an after-run drain stays
pending. -/
def drainNotDone (s : State) : State :=
  fillNeedTest
    (noteGate (gateWithheld s)
      (toIdle
        (s.mapWater fun w =>
          { w with
            drainFailedRaises := w.drainFailedRaises + 1
            drainPending := w.drainPending || w.purpose = .afterRun })))

/-- The 45 s of a pass have passed (R133). -/
def drainPassEnded (s : State) : State :=
  match s.water.op with
  | .draining second =>
    if boilerWet s = false then drainSucceeded s
    else if second then drainNotDone s
    else s.mapWater fun w => { w with op := .draining true }
  | .idle => s
  | .filling => s
  | .verifying => s
  | .retryWait => s
  | .waitTank _ => s
  | .drainWaitCool => s

def execDrainPassEnd (s : State) : StepResult := .next (drainPassEnded s)

/-! ### The raises (R127, R133, R157) -/

/-- The fault unit takes one raise of FILL_FAILED. -/
def execFillFailed (s : State) : StepResult :=
  .next
    (if 0 < s.water.fillFailedRaises then
      takeFault .fillFailed (s.mapWater fun w => { w with fillFailedRaises := w.fillFailedRaises - 1 })
     else s)

/-- The fault unit takes one raise of DRAIN_FAILED. -/
def execDrainFailed (s : State) : StepResult :=
  .next
    (if 0 < s.water.drainFailedRaises then
      takeFault .drainFailed (s.mapWater fun w => { w with drainFailedRaises := w.drainFailedRaises - 1 })
     else s)

end Sys2Proof.Machine
end

