-- ==== Sys2Proof/Machine/RunEvents.lean ====
section
/-! DEFINITION. The run controller's and the prompt unit's timed events (R24, R30 to R32, R35, R37, R40, R57, R147, R148). Each
limit is compared where the second that reaches it has been counted and the timer counts in the present state (R24; log
entry 6). -/

namespace Sys2Proof.Machine

/-- The run record after one second (R24, R147). -/
def Run.second (r : Run) : Run :=
  { r with
    stepElapsed := if r.state = .running then min (r.stepElapsed + 1) 65534 else r.stepElapsed
    runElapsed := if r.state.active then min (r.runElapsed + 1) 65535 else r.runElapsed
    held :=
      if r.state = .doorHeld ∨ r.state = .paused then r.held.map fun h => min (h + 1) Config.pauseLimit else r.held
    flushHold :=
      if r.state = .running ∧ r.flushPart = some .hold then min (r.flushHold + 1) Config.flushHoldSeconds else r.flushHold
    secondDue := r.secondDue || r.state = .running }

def execRunSecondTick (s : State) : StepResult := .next (s.mapRun Run.second)

/-- The second just counted in RUNNING has brought step elapsed to a limit. -/
def stepReaches (limit : Nat) (s : State) : Bool := s.run.state = .running && s.run.secondDue && limit ≤ s.run.stepElapsed

/-- The PREHEAT limit (R30): the mark is set before the run advances. -/
def preheatLimitReached (s : State) : State :=
  match currentCookStep s with
  | some (.preheat _) =>
    if stepReaches Config.preheatLimit s then advance (s.mapRun fun r => { r with preheatMark := true }) else s
  | some (.cook _ _ _) => s
  | some (.prompt _ _ _) => s
  | some (.rest _ _) => s
  | none => s

def execPreheatTimeout (s : State) : StepResult := .next (preheatLimitReached s)

/-- The duration that ends a COOK step: the override where there is one, else the table's (R31). -/
def cookLimit (s : State) (d : Option Nat) : Option Nat := s.run.durOverride.or d

/-- The end of a COOK step by its duration (R31). -/
def cookDurationReached (s : State) : State :=
  match currentCookStep s with
  | some (.cook _ d _) => if (cookLimit s d).any (fun n => stepReaches n s) then advance s else s
  | some (.preheat _) => s
  | some (.prompt _ _ _) => s
  | some (.rest _ _) => s
  | none => s

def execCookDurationEnd (s : State) : StepResult := .next (cookDurationReached s)

/-- The end of a REST step (R32). -/
def restReached (s : State) : State :=
  match currentCookStep s with
  | some (.rest _ d) => if stepReaches d s then advance s else s
  | some (.preheat _) => s
  | some (.cook _ _ _) => s
  | some (.prompt _ _ _) => s
  | none => s

def execRestEnd (s : State) : StepResult := .next (restReached s)

/-- The end of a SOAK step (R148). -/
def execSoakEnd (s : State) : StepResult :=
  .next (if currentBuiltin s = some .soak ∧ stepReaches Config.soakSeconds s = true then advance s else s)

/-- The FLUSH hold is over: the part becomes DRAIN and a drain is requested (R147). -/
def execFlushHoldEnd (s : State) : StepResult :=
  .next
    (if s.run.state = .running ∧ currentBuiltin s = some .flush ∧ s.run.flushPart = some .hold
        ∧ Config.flushHoldSeconds ≤ s.run.flushHold then
      requestStepDrain (s.mapRun fun r => { r with flushPart := some .drain })
    else s)

/-- The end of the KEEP_WARM phase (R35). -/
def execKeepWarmEnd (s : State) : StepResult :=
  .next
    (if s.run.phase = .keepWarm ∧ stepReaches Config.keepWarmLimit s = true then runEnd .completed false s else s)

/-- A held limit has been reached. -/
def heldReaches (limit : Nat) (s : State) : Bool := s.run.held.any fun h => limit ≤ h

/-- 300 s in DOOR_HELD (R37). -/
def execDoorHeldLimit (s : State) : StepResult :=
  .next
    (if s.run.state = .doorHeld ∧ heldReaches Config.doorHeldLimit s = true then enterHeld .paused s else s)

/-- 3,600 s in PAUSED (R40). -/
def execPauseTimeout (s : State) : StepResult :=
  .next
    (if s.run.state = .paused ∧ heldReaches Config.pauseLimit s = true then runEnd .pauseTimeout false s else s)

/-! ### Prompts (R57) -/

/-- One prompt's second. -/
def countDown (id : Nat) (u : Prompts) : Prompts :=
  { u with list := u.list.map fun q => if q.id = id then { q with remaining := q.remaining - 1 } else q }

def execPromptCountdown (id : Nat) (s : State) : StepResult :=
  .next (if s.run.state.inStep then s.mapPrompts (countDown id) else s)

/-- The prompt of that id has run out. -/
def expiredPrompt (id : Nat) (s : State) : Option Prompt :=
  s.prompts.list.find? fun q => q.id = id && q.remaining = 0

/-- A prompt whose remaining time is 0 closes TIMEOUT (R57). -/
def promptExpires (id : Nat) (s : State) : State :=
  match expiredPrompt id s with
  | some q => if s.run.state.inStep then closeAndDeliver q .timeout .nobody (timeoutAction q) s else s
  | none => s

def execPromptTimeout (id : Nat) (s : State) : StepResult := .next (promptExpires id s)

end Sys2Proof.Machine
end

