-- ==== Sys2Proof/Machine/RoundEvents.lean ====
section
/-! DEFINITION. Measurement rounds and what each block does with a completed one (R11, R27, R30, R56, R65 to R67, R81, R112,
R114, R132, R155 to R157, R171), and the idle timer (R168). Each block takes a completed round once (R67). -/

namespace Sys2Proof.Machine

/-! ### The round itself -/

/-- A round begins (R66): it is remembered whether it began outside STANDBY (R81), and the next follows by the mode. -/
def beginRound (s : State) : State :=
  s.mapMeas fun m => { m with inProgress := some (s.modes.mode ≠ .standby), schedule := .after (roundPeriod s.modes.mode) }

/-- ROUND_BEGIN: while a round is in progress none begins (R66). -/
def execRoundBegin (s : State) : StepResult := .next (if s.meas.inProgress.isSome then s else beginRound s)

/-- ROUND_COMPLETE of the round in progress (R65, R67). -/
def roundCompleted (k : RoundCounts) (s : State) : State :=
  match s.meas.inProgress with
  | some awake => publishRound k awake s
  | none => s

def execRoundComplete (k : RoundCounts) (s : State) : StepResult := .next (roundCompleted k s)

/-! ### The run controller (R11, R27, R30) -/

/-- The latest round makes the readings fresh, or they are fresh already (R81). -/
def roundFresh (s : State) : Bool := s.modes.fresh || s.meas.latest.beganAwake

/-- PREPARING ends at a fresh round (R27). -/
def leavePreparing (s : State) : State :=
  let s1 := s.mapRun fun r =>
    if s.pins.doorOpen then { r with state := .doorHeld, held := some 0 } else { r with state := .running }
  enterStep 0 none (postAll .runChanged s1)

/-- The step's end is given by the round: a PREHEAT threshold (R30), or every guard of a COOK step (R11, R31). -/
def roundEndsStep (s : State) : Bool :=
  match currentCookStep s with
  | some (.preheat h) => s.meas.latest.readings.cav.value.any fun v => h.setpoint - 20 ≤ v
  | some (.cook _ _ g) =>
    !g.isEmpty && s.run.durOverride.isNone && g.all (guardTrue s.run.probeDeclined s.meas.latest.readings)
  | some (.prompt _ _ _) => false
  | some (.rest _ _) => false
  | none => false

/-- The run controller's judgement of a round that completed in the present run state (R11, R27): of PREPARING a fresh one, of
RUNNING one that ends the step then current. -/
def judgeRound (s : State) : State :=
  if s.run.state = .preparing then (if roundFresh s then leavePreparing s else s)
  else if s.run.state = .running ∧ roundEndsStep s = true then advance s
  else s

def execRoundRunJudgement (s : State) : StepResult :=
  .next
    (if s.meas.owed.judgement then
      judgeRound (s.mapMeas Meas.dropJudgement)
    else s)

/-- The prompt unit takes a change of presence to PRESENT (R56, R78). -/
def execProbeSensorClosure (s : State) : StepResult :=
  .next
    (if s.meas.owed.closure then
      sensorClosure .insertProbe (s.mapMeas fun m => { m with owed := { m.owed with closure := false } })
    else s)

/-! ### The fault unit (R155 to R157) -/

/-- A round-sourced kind's mark (R156); the water unit's two kinds have none. -/
def Tripped.get (t : Tripped) : FaultKind → Bool
  | .reference => t.reference
  | .cavityOvertemp => t.cavityOvertemp
  | .cavitySensor => t.cavitySensor
  | .boilerOvertemp => t.boilerOvertemp
  | .boilerSensor => t.boilerSensor
  | .fillFailed => false
  | .drainFailed => false

/-- The round-sourced kinds in the order of R157. -/
def roundKinds : List FaultKind := [.reference, .cavityOvertemp, .cavitySensor, .boilerOvertemp, .boilerSensor]

/-- The latest round detects a kind (R155, R156). -/
def detects (s : State) (k : FaultKind) : Bool := !s.faults.tripped.get k && roundShows s k

/-- A kind's mark after the round (R156). -/
def trippedAfter (s : State) (k : FaultKind) : Bool :=
  detects s k || (s.faults.tripped.get k && conditionPresent s k)

/-- Every kind's mark after the round. -/
def allTrippedAfter (s : State) : Tripped where
  reference := trippedAfter s .reference
  cavityOvertemp := trippedAfter s .cavityOvertemp
  cavitySensor := trippedAfter s .cavitySensor
  boilerOvertemp := trippedAfter s .boilerOvertemp
  boilerSensor := trippedAfter s .boilerSensor

/-- Faults taken in order (R157). -/
def takeFaults : List FaultKind → State → State
  | [], s => s
  | k :: ks, s => takeFaults ks (takeFault k s)

/-- The fault unit's test of a round. -/
def testRound (s : State) : State :=
  takeFaults (roundKinds.filter (detects s)) (s.mapFaults fun f => { f with tripped := allTrippedAfter s })

def execFaultRoundTest (s : State) : StepResult :=
  .next
    (if s.meas.owed.fault then testRound (s.mapMeas fun m => { m with owed := { m.owed with fault := false } }) else s)

/-! ### The load scheduler (R112, R114) -/

/-- The budget recomputed from what stood at the round's completion, then the shed test. -/
def budgetRound (s : State) : State :=
  let b := s.meas.latest.budget
  s.mapSched fun u => (u.recompute s.meas.supplyW b).shed s.meas.supplyW b.limit

/-- The scheduler takes the round, once (R67). -/
def takeBudget (s : State) : State :=
  if s.meas.owed.budget then budgetRound (s.mapMeas fun m => { m with owed := { m.owed with budget := false } }) else s

def execBudgetRecompute (s : State) : StepResult := .next (takeBudget s)

/-! ### The water unit (R132) -/

def execDrainCoolTest (s : State) : StepResult :=
  .next
    (if s.meas.owed.drain then
      coolTest s.meas.latest.readings.boil.value
        (s.mapMeas fun m => { m with owed := { m.owed with drain := false } })
    else s)

/-! ### The mode controller (R81, R166, R168, R171) -/

/-- Freshness and the cooling state after a round. The mode is not asked: a round that began awake and completed before STANDBY was
entered sets freshness also where the mode controller takes it after that entry (R67, R81; DESIGN CHOICE, log entry 10). -/
def ModeCtl.afterRound (c : ModeCtl) (beganAwake : Bool) (cav : Option Int) : ModeCtl :=
  { c with
    fresh := c.fresh || beganAwake
    cooling :=
      if c.mode = .afterRun ∧ c.cooling = some .cooling ∧ cav.any (fun v => v < 700) = true then some .cooled
      else c.cooling }

/-- The mode controller's update at a round. -/
def modeRound (s : State) : State :=
  let cav := s.meas.latest.readings.cav.value
  leaveAfterRun (coolingFan cav (s.mapModes fun c => c.afterRound s.meas.latest.beganAwake cav))

def execModeRoundUpdate (s : State) : StepResult :=
  .next
    (if s.meas.owed.mode then modeRound (s.mapMeas fun m => { m with owed := { m.owed with mode := false } }) else s)

/-- The idle timer's second (R168). -/
def execIdleTimerCountdown (s : State) : StepResult :=
  .next
    (if s.modes.mode = .ready then s.mapModes fun c => { c with idle := c.idle.map fun n => n - 1 } else s)

/-- The idle timer has reached 0 in READY (R168). -/
def execIdleTimeout (s : State) : StepResult :=
  .next (if s.modes.mode = .ready ∧ s.modes.idle = some 0 then enterStandby s else s)

end Sys2Proof.Machine
end

