-- ==== Sys2Proof/Machine/SlotEvents.lean ====
section
/-! DEFINITION. Slots and frames (R97, R102 to R108), and the completions of non-volatile writes (R177, R179). -/

namespace Sys2Proof.Machine

/-- A frame runs, in RUNNING (R102). -/
def frameLive (s : State) : Bool := s.sched.frameRunning && s.run.state = .running

/-- The end of slot 39 (R102 step 1, R108): shortfall is recorded and a new frame begins. -/
def completeFrame (s : State) : State := frameStart (s.mapSched Sched.recordShortfall)

/-- Slot n is decided and the fan duty applied (R97, R102 steps 2 to 4). -/
def startSlotNumber (n : Nat) (s : State) : State :=
  (s.mapSched fun u => u.startSlot (boilerWet s) n).mapModes fun c => { c with fanOut := s.demand.fanDuty }

/-- No slot is walked under the budget that a reset leaves (R115): where no budget has been computed since, a round still owed is
taken before the slot is decided (DEDUCED, log entry 10). -/
def measuredBudget (s : State) : State := if s.sched.measured then s else takeBudget s

/-- The slot start that is due (R102): slot 0 of a frame just formed, the next slot, or slot 0 of the frame after slot 39. -/
def slotDue (s : State) : State :=
  if s.sched.slotStarted = false then startSlotNumber s.sched.slot s
  else if s.sched.slot < 39 then startSlotNumber (s.sched.slot + 1) s
  else startSlotNumber 0 (completeFrame s)

def execSlotStart (s : State) : StepResult := .next (if frameLive s then slotDue (measuredBudget s) else s)

/-- FRAME_COMPLETE: slot 39 ends in RUNNING (R108); slot 0 of the new frame is decided by the slot start that follows. -/
def execFrameComplete (s : State) : StepResult :=
  .next (if frameLive s = true ∧ s.sched.slotStarted = true ∧ s.sched.slot = 39 then completeFrame s else s)

/-! ### Writes (R177, R179) -/

/-- The recipe write in flight completes, its check passing or not (R177). -/
def recipeWritten (pass : Bool) (s : State) : State :=
  match s.store.flight with
  | some (.store n r p) => completeRecipe n p false pass (.valid r) s
  | some (.erase n p) => completeRecipe n p true pass .empty s
  | some (.save _ _) => s
  | none => s

def execStoreWriteComplete (pass : Bool) (s : State) : StepResult := .next (recipeWritten pass s)

/-- The save in flight completes, its check passing or not (R179). -/
def saveWritten (pass : Bool) (s : State) : State :=
  match s.store.flight with
  | some (.save r retry) => completeSave r retry pass s
  | some (.store _ _ _) => s
  | some (.erase _ _) => s
  | none => s

def execSaveComplete (pass : Bool) (s : State) : StepResult := .next (saveWritten pass s)

end Sys2Proof.Machine
end

