-- ==== Sys2Proof/Machine/Dispatch.lean ====
section
/-! DEFINITION. One arm for each command and event: the call of its meaning. -/

namespace Sys2Proof.Machine

def exec (i : Instr) (s : State) : Host.Outcome State Fault Refusal :=
  match i with
  | .getStatus p => Sys2Proof.Machine.execGetStatus p s
  | .getRun p => Sys2Proof.Machine.execGetRun p s
  | .getStep p index => Sys2Proof.Machine.execGetStep p index s
  | .getSensors p => Sys2Proof.Machine.execGetSensors p s
  | .getLoads p => Sys2Proof.Machine.execGetLoads p s
  | .getWater p => Sys2Proof.Machine.execGetWater p s
  | .getFault p => Sys2Proof.Machine.execGetFault p s
  | .getPrompts p => Sys2Proof.Machine.execGetPrompts p s
  | .getNotices p => Sys2Proof.Machine.execGetNotices p s
  | .recipeRead p slot part => Sys2Proof.Machine.execRecipeRead p slot part s
  | .programPutStep p index record => Sys2Proof.Machine.execProgramPutStep p index record s
  | .programClear p => Sys2Proof.Machine.execProgramClear p s
  | .programLoad p slot => Sys2Proof.Machine.execProgramLoad p slot s
  | .start p options => Sys2Proof.Machine.execStart p options s
  | .pause p => Sys2Proof.Machine.execPause p s
  | .resume p => Sys2Proof.Machine.execResume p s
  | .stop p => Sys2Proof.Machine.execStop p s
  | .adjust p index field value => Sys2Proof.Machine.execAdjust p index field value s
  | .skip p index => Sys2Proof.Machine.execSkip p index s
  | .optSet p options => Sys2Proof.Machine.execOptSet p options s
  | .optClear p options => Sys2Proof.Machine.execOptClear p options s
  | .optToggle p options => Sys2Proof.Machine.execOptToggle p options s
  | .answer p id ans => Sys2Proof.Machine.execAnswer p id ans s
  | .consentArm p => Sys2Proof.Machine.execConsentArm p s
  | .consentDrop p => Sys2Proof.Machine.execConsentDrop p s
  | .clearFault p => Sys2Proof.Machine.execClearFault p s
  | .descaleStart p => Sys2Proof.Machine.execDescaleStart p s
  | .rinseStart p => Sys2Proof.Machine.execRinseStart p s
  | .setHardness p hardness => Sys2Proof.Machine.execSetHardness p hardness s
  | .setBudget p mode floor manual => Sys2Proof.Machine.execSetBudget p mode floor manual s
  | .standby p => Sys2Proof.Machine.execStandby p s
  | .reset p => Sys2Proof.Machine.execReset p s
  | .recipeStore p slot category name => Sys2Proof.Machine.execRecipeStore p slot category name s
  | .recipeErase p slot => Sys2Proof.Machine.execRecipeErase p slot s
  | .elementConfig p entry ratedW enabled rampStep => Sys2Proof.Machine.execElementConfig p entry ratedW enabled rampStep s
  | .setSupply p limit volts scan => Sys2Proof.Machine.execSetSupply p limit volts scan s
  | .setCal p channel offset => Sys2Proof.Machine.execSetCal p channel offset s
  | .scaleSet p mg => Sys2Proof.Machine.execScaleSet p mg s
  | .setScaleLimit p mg => Sys2Proof.Machine.execSetScaleLimit p mg s
  | .setFillRetries p retries => Sys2Proof.Machine.execSetFillRetries p retries s
  | .formCheckFailure p bytes => Sys2Proof.Machine.execFormCheckFailure p bytes s
  | .writeDiscard p => Sys2Proof.Machine.execWriteDiscard p s
  | .powerOnReset pins => Sys2Proof.Machine.execPowerOnReset pins s
  | .lineReset => Sys2Proof.Machine.execLineReset s
  | .doorOpens => Sys2Proof.Machine.execDoorOpens s
  | .doorCloses => Sys2Proof.Machine.execDoorCloses s
  | .tankChange present level => Sys2Proof.Machine.execTankChange present level s
  | .boilerLevelChange level => Sys2Proof.Machine.execBoilerLevelChange level s
  | .flowPulse => Sys2Proof.Machine.execFlowPulse s
  | .fillVolumeLimit => Sys2Proof.Machine.execFillVolumeLimit s
  | .fillTimeLimit => Sys2Proof.Machine.execFillTimeLimit s
  | .verifyEnd => Sys2Proof.Machine.execVerifyEnd s
  | .retryWaitEnd => Sys2Proof.Machine.execRetryWaitEnd s
  | .tankWaitEnd => Sys2Proof.Machine.execTankWaitEnd s
  | .drainPassEnd => Sys2Proof.Machine.execDrainPassEnd s
  | .fillFailed => Sys2Proof.Machine.execFillFailed s
  | .drainFailed => Sys2Proof.Machine.execDrainFailed s
  | .runSecondTick => Sys2Proof.Machine.execRunSecondTick s
  | .preheatTimeout => Sys2Proof.Machine.execPreheatTimeout s
  | .cookDurationEnd => Sys2Proof.Machine.execCookDurationEnd s
  | .restEnd => Sys2Proof.Machine.execRestEnd s
  | .soakEnd => Sys2Proof.Machine.execSoakEnd s
  | .flushHoldEnd => Sys2Proof.Machine.execFlushHoldEnd s
  | .keepWarmEnd => Sys2Proof.Machine.execKeepWarmEnd s
  | .doorHeldLimit => Sys2Proof.Machine.execDoorHeldLimit s
  | .pauseTimeout => Sys2Proof.Machine.execPauseTimeout s
  | .promptCountdown id => Sys2Proof.Machine.execPromptCountdown id s
  | .promptTimeout id => Sys2Proof.Machine.execPromptTimeout id s
  | .roundBegin => Sys2Proof.Machine.execRoundBegin s
  | .roundComplete counts => Sys2Proof.Machine.execRoundComplete counts s
  | .roundRunJudgement => Sys2Proof.Machine.execRoundRunJudgement s
  | .probeSensorClosure => Sys2Proof.Machine.execProbeSensorClosure s
  | .faultRoundTest => Sys2Proof.Machine.execFaultRoundTest s
  | .budgetRecompute => Sys2Proof.Machine.execBudgetRecompute s
  | .drainCoolTest => Sys2Proof.Machine.execDrainCoolTest s
  | .modeRoundUpdate => Sys2Proof.Machine.execModeRoundUpdate s
  | .idleTimeout => Sys2Proof.Machine.execIdleTimeout s
  | .slotStart => Sys2Proof.Machine.execSlotStart s
  | .frameComplete => Sys2Proof.Machine.execFrameComplete s
  | .storeWriteComplete pass => Sys2Proof.Machine.execStoreWriteComplete pass s
  | .saveComplete pass => Sys2Proof.Machine.execSaveComplete pass s
  | .idleTimerCountdown => Sys2Proof.Machine.execIdleTimerCountdown s

end Sys2Proof.Machine
end

