-- ==== Sys2Proof/Machine/Transfers.lean ====
section
/-! DEFINITION. The I2C transfers under the commands (R182, R183, R186): addresses, the bytes a port acknowledges and holds, what
each end of a write does with them, and what a read returns. The table has no row for a byte of a transfer, so these operations
stand beside step: they fill a receive buffer and put the command its bytes spell at the front of the queue, where the next step
takes it (log entry 16). -/

namespace Sys2Proof.Machine

/-! ### Addresses (R182) -/

/-- A port's address on its own bus (12.1). -/
def portAddress : Port → Nat
  | .panel => 0x3A
  | .link => 0x3B
  | .service => 0x3C

/-- Port p acknowledges an address on its bus: its own and no other (R182). -/
def answersTo (p : Port) (address : Nat) : Bool := address = portAddress p

/-! ### A write transfer (R183) -/

/-- The bytes a port stores of a write. -/
def heldLimit : Nat := 64

/-- A write addressed to the port begins a new frame. -/
def PortRec.begin (r : PortRec) : PortRec := { r with write := .storing, held := [], nacked := false }

/-- The START, and the address, of a write to port p. -/
def beginWrite (p : Port) (s : State) : State := s.mapPorts fun q => q.modify p PortRec.begin

/-- The port stores the next data byte of a write: the first 64, and none after them. -/
def acknowledges (r : PortRec) : Bool := r.held.length < heldLimit

/-- One data byte of a write: stored, or answered with NACK and not stored. Of a write that a reset has abandoned nothing is stored
(R196). -/
def PortRec.receive (r : PortRec) (b : Byte) : PortRec :=
  match r.write with
  | .storing => if acknowledges r then { r with held := r.held ++ [b] } else { r with nacked := true }
  | .abandoned => r
  | .none => r

/-- The data bytes of a write addressed to port p, in order. -/
def receiveBytes (p : Port) (bytes : List Byte) (s : State) : State :=
  s.mapPorts fun q => q.modify p fun r => bytes.foldl PortRec.receive r

/-- How a write transfer ends (R183). -/
inductive WriteEnd where
  /-- A STOP condition. -/
  | stop
  /-- A repeated START and a read addressed to the same port, at whose end the frame is taken. -/
  | readSamePort
  /-- A repeated START and a write addressed to the same port. -/
  | writeSamePort
  /-- A repeated START and a transfer to another address. -/
  | otherAddress
deriving DecidableEq, Repr

/-- The frame a port holds. Of bytes answered with NACK nothing is held; one byte 0x00 stands for them, which the form checks do
not read (R184). -/
def heldFrame (r : PortRec) : List Byte := r.held ++ if r.nacked then [0] else []

/-- The command, or the failure of the form checks, that the bytes held give; none where no data byte was written (R183). -/
def heldCommand (p : Port) (s : State) : Option Instr := ofFrame p (heldFrame (s.ports.get p))

/-- A command is taken before whatever waits in the queue. -/
def takeNext (c : Instr) (s : State) : State := { s with pending := c :: s.pending }

/-- What the end of a write does with the bytes held (R183). -/
def writeOver (p : Port) (e : WriteEnd) (s : State) : State :=
  match e with
  | .stop => match heldCommand p s with | some c => takeNext c s | none => s
  | .readSamePort => match heldCommand p s with | some c => takeNext c s | none => s
  | .writeSamePort => takeNext (.writeDiscard p) s
  | .otherAddress => takeNext (.writeDiscard p) s

/-- The write in progress on port p ends: its frame is taken, or the bytes held are discarded (R183). The end of a write that a
reset has abandoned takes nothing (R191, R196). -/
def endWrite (p : Port) (e : WriteEnd) (s : State) : State :=
  let s1 := s.mapPorts fun q => q.modify p fun r => { r with write := .none }
  match (s.ports.get p).write with
  | .storing => writeOver p e s1
  | .abandoned => s1
  | .none => s1

/-- A whole write transfer on the bus of port p: nothing happens at another address (R182). -/
def writeTransfer (p : Port) (address : Nat) (bytes : List Byte) (e : WriteEnd) (s : State) : State :=
  if answersTo p address then endWrite p e (receiveBytes p bytes (beginWrite p s)) else s

/-! ### A read transfer (R186) -/

/-- The first n bytes a read of port p returns. It changes nothing; a read after a repeated START is served before the frame just
written is taken, and so returns the answer to the request before it (R183). A read is one moment of one state: what the rest of a read
that a reset abandons returns (R196) is not said, and no read is in progress here (DESIGN CHOICE, log entry 16). -/
def readTransfer (p : Port) (n : Nat) (s : State) : List Byte := (List.range n).map (readByte statusCode (s.ports.get p).resp)

end Sys2Proof.Machine
end

