-- ==== Sys2Proof/Safety.lean ====
section
/-! DEFINITION. What the claims speak of: what a run of the part keeps at every moment, which blocks of the state a command
leaves alone, and what was answered and posted. -/

namespace Sys2Proof.Machine

/-! ### What holds at every moment -/

/-- Each port's notice set holds each kind at most once (R188). -/
abbrev NoticesOnce (s : State) : Prop :=
  s.ports.panel.notices.Nodup ∧ s.ports.link.notices.Nodup ∧ s.ports.service.notices.Nodup

/-- The four channels. -/
def allChannels : List Channel := [.cav, .vent, .probe, .boil]

/-- The ranges that the commands which set a stored setting leave it in (R73, R113, R116 to R118, R134, R137), with the two
relations of R113. -/
abbrev AppRecord.inRange (r : AppRecord) : Prop :=
  (r.hardness ≤ 500 ∧ 5000 ≤ r.scaleLimit ∧ r.scaleLimit ≤ 40000 ∧ r.account ≤ 65535 ∧ r.retries ≤ 5)
    ∧ (1000 ≤ r.limit ∧ r.limit ≤ 7400 ∧ 800 ≤ r.floor ∧ r.floor ≤ 3600 ∧ 200 ≤ r.volts ∧ r.volts ≤ 250)
    ∧ (r.floor ≤ r.limit ∧ (∀ v ∈ r.manual, 800 ≤ v ∧ v ≤ r.limit) ∧ (r.mode = .manual → r.manual ≠ none))
    ∧ (∀ l ∈ loadsInOrder,
        100 ≤ (r.entries.get l).ratedW ∧ (r.entries.get l).ratedW ≤ 3500 ∧ (r.entries.get l).rampStep ≤ 40)
    ∧ ∀ c ∈ allChannels, -50 ≤ r.offsets.get c ∧ r.offsets.get c ≤ 50

/-- What a save in flight writes is in range. -/
abbrev Flight.savesInRange : Flight → Prop
  | .save r _ => r.inRange
  | .store _ _ _ => True
  | .erase _ _ => True

/-- The stored settings are in range, live, in the appliance record and in a save in flight; the scale remainder stays below
1,000 (R134). -/
abbrev SettingsInRange (s : State) : Prop :=
  (liveRecord s).inRange ∧ s.water.remainder ≤ 999 ∧ (∀ r ∈ s.store.record, r.inRange)
    ∧ (∀ f ∈ s.store.flight, f.savesInRange)

/-- While the fault hold is set no run is active (R161), and the capture record is there exactly while it is set (R159). -/
abbrev HoldExcludesRun (s : State) : Prop :=
  (s.faults.hold = true → s.run.state.active = false) ∧ (s.faults.capture.isSome = s.faults.hold)

/-- A rotation entry is on only in RUNNING with the door closed and the hold clear (R109), within a running frame. -/
abbrev LoadsOnlyInRunning (s : State) : Prop :=
  (∀ l ∈ loadsInOrder, loadOn s l = true → s.sched.frameRunning = true)
    ∧ (s.sched.frameRunning = true → s.run.state = .running)
    ∧ (s.run.state = .running → s.pins.doorOpen = false ∧ s.faults.hold = false)

/-- The BOILER entry is on only while the boiler level reads WET (R110). -/
abbrev BoilerOnlyWet (s : State) : Prop := loadOn s .boiler = true → s.pins.boilerLevel = .wet

/-- The mode is ACTIVE exactly while a run is active (R169); the idle timer is there in READY alone and the cooling state in
AFTER_RUN alone (R165). -/
abbrev ModeFollowsRun (s : State) : Prop :=
  (s.modes.mode = .active ↔ s.run.state.active = true)
    ∧ (s.modes.idle.isSome = true ↔ s.modes.mode = .ready)
    ∧ (s.modes.cooling.isSome = true ↔ s.modes.mode = .afterRun)

/-- A guard as R3 and R9 let it be written, its range apart: a NEAR tolerance is not negative and an interval is not empty. -/
def Guard.wellShaped (g : Guard) : Bool :=
  match g.test with
  | .atMost _ => true
  | .atLeast _ => true
  | .near _ tol => 0 ≤ tol
  | .inside t1 t2 => t1 ≤ t2
  | .outside t1 t2 => t1 ≤ t2

/-- A record as the table may hold it: one that a PROGRAM_PUT_STEP would store unchanged (R3 to R9, R173). -/
def Step.acceptable (x : Step) : Bool :=
  stepInRange x && clampStep x = x &&
    match x with
    | .cook _ d g => (d.isSome || !g.isEmpty) && g.length ≤ 4 && g.all Guard.wellShaped
    | .prompt k _ _ => stepPromptKind k
    | .preheat _ => true
    | .rest _ _ => true

/-- A recipe as a VALID slot may hold it (R173). -/
abbrev Recipe.acceptable (r : Recipe) : Prop :=
  r.steps ≠ [] ∧ r.steps.length ≤ 16 ∧ (∀ x ∈ r.steps, x.acceptable = true) ∧ nameOk r.name = true

abbrev Slot.acceptable : Slot → Prop
  | .valid r => r.acceptable
  | .empty => True
  | .corrupt => True

abbrev Flight.acceptable : Flight → Prop
  | .store _ r _ => r.acceptable
  | .erase _ _ => True
  | .save _ _ => True

/-- The program table holds at most 16 records, and it, every VALID slot and a store in flight hold only records that
PROGRAM_PUT_STEP would accept unchanged (R1, R173). -/
abbrev RecordsAcceptable (s : State) : Prop :=
  (s.prog.steps.length ≤ 16 ∧ ∀ x ∈ s.prog.steps, x.acceptable = true)
    ∧ (∀ x ∈ s.store.slots, x.acceptable)
    ∧ (∀ f ∈ s.store.flight, f.acceptable)

/-- The library has its 24 slots (R172). -/
abbrev LibraryWhole (s : State) : Prop := s.store.slots.length = 24

/-- While a run is active its kind is set, and its step index is below its program's length (R29). -/
abbrev StepWithinProgram (s : State) : Prop :=
  s.run.state.active = true → s.run.kind ≠ .none ∧ s.run.stepIdx < programLength s

/-- Where a source's prompts come from (R52). -/
def PromptKind.source : PromptKind → PromptSource
  | .addFood => .step
  | .turnFood => .step
  | .checkDoneness => .step
  | .pourAgent => .step
  | .rinseTank => .step
  | .insertProbe => .probe
  | .refillTank => .water

/-- The prompt list holds at most one prompt of a source (R49), ids 1 to 255 without repeats and not the next id (R51), each
within 3,600 s of its end (R50); the history holds at most 4 closures (R59). -/
abbrev PromptsOrdered (s : State) : Prop :=
  (s.prompts.list.map (·.source)).Nodup
    ∧ (s.prompts.nextId :: s.prompts.list.map (·.id)).Nodup
    ∧ (∀ i ∈ s.prompts.nextId :: s.prompts.list.map (·.id), 1 ≤ i ∧ i ≤ 255)
    ∧ (∀ q ∈ s.prompts.list, q.kind.source = q.source ∧ q.remaining ≤ 3600)
    ∧ s.prompts.history.length ≤ 4

/-- A prompt is open only in an active run (R51). -/
abbrev PromptsOnlyInRun (s : State) : Prop := s.prompts.list ≠ [] → s.run.state.active = true

/-- A fill is in progress. -/
def WaterOp.filling? : WaterOp → Bool
  | .filling => true
  | .verifying => true
  | .retryWait => true
  | .waitTank _ => true
  | .idle => false
  | .drainWaitCool => false
  | .draining _ => false

/-- The operation record stays in its ranges (R123): the attempt number is there exactly in a fill and one above the failures
counted, failures at most 6, the flow count at most 800; while the hold is set nothing is in progress (R131), a fill is in
progress or wanted only in an active run (R124), an operation in IDLE serves nobody, and an after-run drain is neither pending
nor in progress in an active built-in run (R143). -/
abbrev WaterInRange (s : State) : Prop :=
  s.water.attempt = (if s.water.op.filling? then some (s.water.failures + 1) else none)
    ∧ (s.water.op.filling? = true → s.water.failures ≤ 5)
    ∧ s.water.failures ≤ 6 ∧ s.water.flow ≤ 800
    ∧ (s.faults.hold = true → s.water.op = .idle)
    ∧ (s.water.op.filling? = true → s.run.state.active = true)
    ∧ (s.water.steamWanted = true → s.run.state.active = true)
    ∧ (s.water.op = .idle → s.water.purpose = .none)
    ∧ (s.run.state.active = true → s.run.kind ≠ .cook → s.water.drainPending = false ∧ s.water.purpose ≠ .afterRun)

/-- Steam is ADMITTED only in RUNNING of a COOK run (R91, R95, R98). -/
abbrev SteamOnlyInCook (s : State) : Prop :=
  s.demand.steam = .admitted → s.run.state = .running ∧ s.run.kind = .cook

/-- One entry's frame figures (R101, R103): granted and remaining stay within a request of at most 40, and once a slot of the
frame has been decided an entry on has been granted its slot. -/
abbrev Entry.inFrame (slotStarted : Bool) (e : Entry) : Prop :=
  e.request ≤ 40 ∧ e.granted + e.remaining ≤ e.request ∧ (slotStarted = true → e.on = true → 1 ≤ e.granted)

/-- Every rotation entry's frame figures are in order (R103), and the frame position is 0 to 39 (R102). -/
abbrev EntriesInFrame (s : State) : Prop :=
  (∀ l ∈ loadsInOrder, (s.sched.entries.get l).inFrame s.sched.slotStarted) ∧ s.sched.slot ≤ 39

/-! ### Blocks a command leaves alone -/

/-- The parts of State. -/
inductive Block where
  | pins | ports | prog | run | prompts | meas | demand | sched | water | faults | modes | store | pending
deriving DecidableEq, Repr

/-- Block b is the same in both states. -/
def Block.same (s t : State) : Block → Prop
  | .pins => t.pins = s.pins
  | .ports => t.ports = s.ports
  | .prog => t.prog = s.prog
  | .run => t.run = s.run
  | .prompts => t.prompts = s.prompts
  | .meas => t.meas = s.meas
  | .demand => t.demand = s.demand
  | .sched => t.sched = s.sched
  | .water => t.water = s.water
  | .faults => t.faults = s.faults
  | .modes => t.modes = s.modes
  | .store => t.store = s.store
  | .pending => t.pending = s.pending

/-- Every block but those listed is the same in both states. -/
def SameExcept (bs : List Block) (s t : State) : Prop := ∀ b, b ∉ bs → b.same s t

/-! ### Answers and notices -/

/-- The state a command's owner finds: the frame taken and the mode controller told (R185). -/
def heardBy (p : Port) (s : State) : State := heard (takeFrame p s)

/-- The buffers of port q are as they were. -/
def BufferKept (q : Port) (s t : State) : Prop :=
  (t.ports.get q).resp = (s.ports.get q).resp ∧ (t.ports.get q).held = (s.ports.get q).held
    ∧ (t.ports.get q).nacked = (s.ports.get q).nacked ∧ (t.ports.get q).write = (s.ports.get q).write

/-- Port p holds this answer and no bytes of a write; the buffers of the other ports are as they were (R183, R185, R186). -/
def Answered (p : Port) (echo : Byte) (st : Status) (payload : List Byte) (s t : State) : Prop :=
  (t.ports.get p).resp = { status := st, echo := echo, payload := payload } ∧ (t.ports.get p).held = []
    ∧ (t.ports.get p).nacked = false ∧ (t.ports.get p).write = (s.ports.get p).write ∧ ∀ q, q ≠ p → BufferKept q s t

/-- Every port's buffers are as they were. -/
def BuffersKept (s t : State) : Prop := ∀ q, BufferKept q s t

/-- These kinds were posted to every port, in this order, and no others (R188). -/
def Posted (ks : List Notice) (s t : State) : Prop :=
  ∀ q, (t.ports.get q).notices = ks.foldl (fun l k => addNotice k l) (s.ports.get q).notices

/-- Every port's notice set holds this kind. -/
def Holds (k : Notice) (t : State) : Prop := ∀ q, k ∈ (t.ports.get q).notices

/-- The command was answered, and nothing else has changed since the mode controller heard it. -/
def OnlyAnswered (p : Port) (echo : Byte) (st : Status) (payload : List Byte) (s t : State) : Prop :=
  Answered p echo st payload s t ∧ Posted [] s t ∧ SameExcept [.ports] s t

/-- An event left every port as it was, but for these notices. -/
def OnlyPosted (ks : List Notice) (s t : State) : Prop := BuffersKept s t ∧ Posted ks s t

/-- A save of the appliance record was requested with the settings as they stand in t (R174). -/
def SaveRequested (s t : State) : Prop :=
  t.store =
    match s.store.flight with
    | none => { s.store with flight := some (.save (liveRecord t) false) }
    | some _ => { s.store with savePending := true }

/-- The recipe write of port p to slot n completed (R177, R174): the slot's state, the port's last-write record, STORE_DONE to
that port alone, and the flight ended or a pending save begun. -/
def RecipeWritten (n : Nat) (p : Port) (erase : Bool) (x : Slot) (pass : Bool) (s t : State) : Prop :=
  t.store = { s.store with
      slots := s.store.slots.set n (if pass then x else .corrupt)
      lastWrite := s.store.lastWrite.modify p fun _ => some { slot := n, erase := erase, ok := pass }
      savePending := false
      flight := if s.store.savePending then some (.save (liveRecord s) false) else none }
    ∧ BuffersKept s t
    ∧ (∀ q, (t.ports.get q).notices =
        if q = p then addNotice .storeDone (s.ports.get q).notices else (s.ports.get q).notices)
    ∧ SameExcept [.ports, .store] s t

/-! ### Payloads, byte by byte, with the codes and the order of log entry 4 -/

/-- A yes/no item of a payload. -/
def yesNo (b : Bool) : Byte := if b then 1 else 0

/-- GET_STATUS carries 22 bytes (R194); bytes 19 and 20 are those of port p. -/
def StatusLayout (b : List Byte) (p : Port) (s : State) : Prop :=
  b.length = 22
    ∧ b[0]? = some (applianceModeCode s.modes.mode) ∧ b[1]? = some (runStateCode s.run.state)
    ∧ b[2]? = some (runKindCode s.run.kind) ∧ b[3]? = some (BitVec.ofNat 8 s.run.stepIdx)
    ∧ b[4]? = some (BitVec.ofNat 8 (s.modes.idle.getD 65535))
    ∧ b[5]? = some (BitVec.ofNat 8 (s.modes.idle.getD 65535 / 256))
    ∧ b[6]? = some ((s.modes.cooling.map coolingCode).getD 0)
    ∧ (∀ f : Byte, b[7]? = some f →
        f.getLsbD 0 = s.modes.fresh
          ∧ f.getLsbD 1 = decide (s.modes.mode ≠ .standby ∧ (s.pins.doorOpen = true ∨ s.run.options.light = true))
          ∧ f.getLsbD 2 = s.faults.hold
          ∧ f.getLsbD 3 = s.run.consent ∧ f.getLsbD 4 = s.water.rinseOwed)
    ∧ b[8]? = some (BitVec.ofNat 8 s.modes.fanOut) ∧ b[9]? = some (resetCauseCode s.modes.resetCause)
    ∧ b[10]? = some (BitVec.ofNat 8 s.prog.steps.length) ∧ b[11]? = some (originByte s.prog.origin)
    ∧ b[12]? = some (scaleStateCode (scaleState s))
    ∧ (∀ (k : Nat) (x : Slot) (f : Byte), s.store.slots[k]? = some x → b[13 + k / 4]? = some f →
        f.toNat / 4 ^ (k % 4) % 4 = (slotCode x).toNat)
    ∧ b[19]? = some (((s.store.lastWrite.get p).map fun w => BitVec.ofNat 8 w.slot).getD 255)
    ∧ (∀ (w : LastWrite) (f : Byte), s.store.lastWrite.get p = some w → b[20]? = some f →
        f.toNat % 16 = (if w.erase then 2 else 1) ∧ f.toNat / 16 = (if w.ok then 1 else 2))
    ∧ b[21]? = some ((s.store.saveResult.map fun ok => if ok then 1 else 2).getD 0)

/-- GET_FAULT carries 17 bytes (R195). -/
def FaultLayout (b : List Byte) (s : State) : Prop :=
  b.length = 17
    ∧ (∀ f : Byte, b[0]? = some f →
        f.getLsbD 0 = s.faults.hold
          ∧ f.getLsbD 1 = (s.faults.hold && s.faults.capture.any fun c => conditionPresent s c.kind))
    ∧ (s.faults.hold = false →
        b.extract 1 14 = [0, 0, 255, 255, 255, 0x00, 0x80, 0x00, 0x80, 255, 255, 255, 255])
    ∧ (∀ c : Capture, s.faults.capture = some c →
        b[1]? = some (faultKindCode c.kind) ∧ b[2]? = some (runKindCode c.runKind)
          ∧ b[3]? = some (BitVec.ofNat 8 (c.stepIdx.getD 255))
          ∧ b.extract 4 6 = le16 (c.stepElapsed.getD 65535)
          ∧ b.extract 6 8 = temperature (c.cav.getD (-32768)) ∧ b.extract 8 10 = temperature (c.boil.getD (-32768))
          ∧ b.extract 10 14 = le32 c.roundCount)
    ∧ b[14]? = some (BitVec.ofNat 8 s.faults.later)
    ∧ b[15]? = some ((s.faults.lastLater.map faultKindCode).getD 0)
    ∧ (∀ f : Byte, b[16]? = some f →
        f.getLsbD 0 = s.faults.tripped.reference ∧ f.getLsbD 1 = s.faults.tripped.cavityOvertemp
          ∧ f.getLsbD 2 = s.faults.tripped.cavitySensor ∧ f.getLsbD 3 = s.faults.tripped.boilerOvertemp
          ∧ f.getLsbD 4 = s.faults.tripped.boilerSensor)

/-- GET_RUN carries 19 bytes (R20, R147, R192). -/
def RunLayout (b : List Byte) (s : State) : Prop :=
  b.length = 19 ∧ b.extract 0 4 = [runKindCode s.run.kind, runStateCode s.run.state, phaseCode s.run.phase,
    BitVec.ofNat 8 s.run.stepIdx]
  ∧ b.extract 4 6 = le16 s.run.stepElapsed ∧ b.extract 6 8 = le16 s.run.runElapsed
  ∧ b.extract 8 10 = le16 (s.run.held.getD 65535) ∧ b.extract 10 12 = le16 (s.run.durOverride.getD 65535)
  ∧ b.extract 12 14 = [yesNo s.run.probeDeclined, yesNo s.run.preheatMark]
  ∧ b.extract 14 19 = [(s.run.startedBy.map portCode).getD 0, (s.run.endCause.map endCauseCode).getD 0,
      yesNo s.run.consent, optionsByte s.run.options, (s.run.flushPart.map flushPartCode).getD 0]

/-- GET_SENSORS carries 57 bytes (R82, R192), given reference counts that fit their two bytes (log entry 3). -/
def SensorsLayout (b : List Byte) (s : State) : Prop :=
  s.meas.refA.count < 65536 → s.meas.refB.count < 65536 →
    b.length = 57
  ∧ (∀ c, ∀ k : Nat, k = (match c with | .cav => 0 | .vent => 10 | .probe => 20 | .boil => 30) →
      b[k]? = some (conditionCode (s.meas.channels.get c).condition)
        ∧ b.extract (k + 1) (k + 3) = temperature ((published s c).getD (-32768))
        ∧ b[k + 3]? = some (yesNo ((published s c).isSome && (s.meas.channels.get c).newestMark))
        ∧ b.extract (k + 4) (k + 8) = le32 ((s.meas.channels.get c).resistance.getD 4294967295)
        ∧ b.extract (k + 8) (k + 10) = temperature (s.meas.channels.get c).offset)
  ∧ b.extract 40 42 = le16 s.meas.refA.count ∧ b[42]? = some (yesNo s.meas.refA.inRange)
  ∧ b.extract 43 45 = le16 s.meas.refB.count ∧ b[45]? = some (yesNo s.meas.refB.inRange)
  ∧ b[46]? = some (presenceCode s.meas.present) ∧ b.extract 47 49 = le16 s.meas.pulses
  ∧ b.extract 49 51 = le16 s.meas.supplyW ∧ b[51]? = some (BitVec.ofNat 8 s.sched.volts)
  ∧ b.extract 52 56 = le32 s.meas.roundCount ∧ b[56]? = some (yesNo s.modes.fresh)

/-- GET_LOADS carries 89 bytes (R99, R119, R192). -/
def LoadsLayout (b : List Byte) (s : State) : Prop :=
  b.length = 89 ∧ b[0]? = some (BitVec.ofNat 8 (s.demand.cavityDemand.getD 255))
  ∧ (∀ l, ∀ k : Nat, k = (match l with | .ring => 0 | .top => 1 | .bottom => 2 | .grill => 3 | .boiler => 4) →
      let e := s.sched.entries.get l
      b[1 + k]? = some (BitVec.ofNat 8 (s.demand.requests.get l))
        ∧ b.extract (9 + 11 * k) (11 + 11 * k) = le16 e.ratedW
        ∧ b.extract (11 + 11 * k) (20 + 11 * k) =
            [yesNo e.enabled, BitVec.ofNat 8 e.rampStep, BitVec.ofNat 8 e.request, BitVec.ofNat 8 e.remaining,
              BitVec.ofNat 8 e.granted, BitVec.ofNat 8 e.rampBase, yesNo e.on, BitVec.ofNat 8 e.shortfall,
              BitVec.ofNat 8 e.sheds])
  ∧ b.extract 6 9 = [BitVec.ofNat 8 s.demand.fanDuty, steamConditionCode s.demand.steam, yesNo s.demand.fastApplied]
  ∧ b.extract 64 67 = [yesNo s.sched.frameRunning, BitVec.ofNat 8 s.sched.slot, budgetModeCode s.sched.mode]
  ∧ b.extract 67 69 = le16 s.sched.limit ∧ b.extract 69 71 = le16 s.sched.floor
  ∧ b.extract 71 73 = le16 (s.sched.manual.getD 65535) ∧ b.extract 73 75 = le16 115
  ∧ b.extract 75 77 = le16 s.sched.foreign ∧ b.extract 77 79 = le16 s.sched.computed
  ∧ b.extract 79 81 = le16 s.sched.inForce ∧ b[81]? = some (yesNo s.sched.ecoCapped)
  ∧ b.extract 82 84 = le16 s.sched.headroom ∧ b[84]? = some (yesNo s.sched.scan)
  ∧ b.extract 85 87 = le16 s.sched.prevW ∧ b.extract 87 89 = le16 s.sched.curW

/-- GET_WATER carries 32 bytes (R139, R192). -/
def WaterLayout (b : List Byte) (s : State) : Prop :=
  b.length = 32 ∧ b.extract 0 5 = [yesNo s.pins.tankPresent, tankLevelCode s.pins.tankLevel,
    if s.pins.tankPresent = true ∧ s.pins.tankLevel = .ok then 1 else 2, boilerLevelCode s.pins.boilerLevel,
    waterOpCode s.water.op]
  ∧ b[5]? = some (BitVec.ofNat 8 (s.water.attempt.getD 255))
  ∧ b[6]? = some (if s.water.op = .draining false then 1 else if s.water.op = .draining true then 2 else 255)
  ∧ b.extract 7 9 = [BitVec.ofNat 8 s.water.failures, purposeCode s.water.purpose]
  ∧ b.extract 9 11 = le16 s.water.flow ∧ b.extract 11 13 = le16 (s.water.lastFill.getD 65535)
  ∧ b.extract 13 16 = [yesNo s.water.drainPending, yesNo s.water.steamWanted,
      if s.water.declineMark = true ∨ (s.water.op.draining? = true ∧ cookActive s = true) then 2 else 1]
  ∧ b[16]? = some (BitVec.ofNat 8 ((if s.water.declineMark then 1 else 0)
      + (if s.water.op.draining? = true ∧ cookActive s = true then 2 else 0)))
  ∧ b.extract 17 19 = le16 s.water.account ∧ b[19]? = some (scaleStateCode (scaleState s))
  ∧ b.extract 20 22 = le16 (s.water.scaleLimit * 80 / 100) ∧ b.extract 22 24 = le16 s.water.scaleLimit
  ∧ b.extract 24 26 = le16 s.water.hardness ∧ b.extract 26 28 = le16 s.water.savedMg
  ∧ b.extract 28 30 = [BitVec.ofNat 8 s.water.retries, yesNo s.water.rinseOwed]
  ∧ b.extract 30 32 = le16 s.water.descaleCount

/-- GET_PROMPTS carries 11 bytes for each open prompt and 4 for each closure (R59, R192). -/
def PromptsLayout (b : List Byte) (s : State) : Prop :=
  let n := s.prompts.list.length
  let m := s.prompts.history.length
  b.length = 3 + 11 * n + 4 * m ∧ b[0]? = some (BitVec.ofNat 8 n)
  ∧ (∀ k q, s.prompts.list[k]? = some q →
      b.extract (1 + 11 * k) (12 + 11 * k) =
        [BitVec.ofNat 8 q.id, promptKindCode q.kind, sourceCode q.source] ++ le16 q.raisedAt
          ++ [if q.kind = .checkDoneness then 2 else 1] ++ le16 q.timeout ++ [actionCode q.action]
          ++ le16 q.remaining)
  ∧ b[1 + 11 * n]? = some (BitVec.ofNat 8 m)
  ∧ (∀ k c, s.prompts.history[k]? = some c →
      b.extract (2 + 11 * n + 4 * k) (6 + 11 * n + 4 * k) =
        [BitVec.ofNat 8 c.id, promptKindCode c.kind, outcomeCode c.outcome, answeredByCode c.by_])
  ∧ b[2 + 11 * n + 4 * m]? = some (BitVec.ofNat 8 s.prompts.nextId)

/-! ### Loads -/

/-- Every rotation entry is cut, the frame abandoned and the demand unit idle (R98, R109). -/
def LoadsCut (s t : State) : Prop :=
  (∀ l, t.sched.entries.get l = { s.sched.entries.get l with on := false, remaining := 0, rampBase := 0 })
    ∧ t.sched = { s.sched with
        entries := t.sched.entries
        frameRunning := false
        slot := 0
        slotStarted := false
        prevW := 0
        curW := 0 }
    ∧ t.demand = {
        requests := { ring := 0, top := 0, bottom := 0, grill := 0, boiler := 0 }
        cavityDemand := none
        fanDuty := 0
        steam := .notSteaming
        reported := s.demand.reported
        fastApplied := false }

/-- What an entry's request becomes at a frame start (R103). -/
def frameRequest (e : Entry) (demand : Nat) : Nat :=
  if e.rampStep = 0 then demand else min demand (e.rampBase + e.rampStep)

/-- The report of a frame start (R93): a frame whose steam is WITHHELD leaves the mark set, and posts STEAM_WITHHELD to every port
where it was clear; any other frame keeps the mark. -/
def SteamReported (s t : State) : Prop :=
  if t.demand.steam = .withheld then t.demand.reported = true ∧ (s.demand.reported = false → Holds .steamWithheld t)
  else t.demand.reported = s.demand.reported

/-- No STEAM_WITHHELD was posted: a port's set holds it exactly where it held it before. -/
def SteamUnreported (s t : State) : Prop :=
  ∀ q, Notice.steamWithheld ∈ (t.ports.get q).notices ↔ Notice.steamWithheld ∈ (s.ports.get q).notices

/-- The steam gate closed during a frame that was ADMITTED to steam (R94, R107, R111): the BOILER slots withdrawn and the entry
switched off, current slot watts without it, and the steam WITHHELD under the mark. -/
def SteamWithdrawn (s t : State) : Prop :=
  let boiler := s.sched.entries.boiler
  t.sched = { s.sched with
      entries := { s.sched.entries with boiler := { boiler with remaining := 0, on := false } }
      curW := if boiler.on then s.sched.curW - boiler.slotRated else s.sched.curW }
    ∧ t.demand = { s.demand with steam := .withheld, reported := true }

/-! ### Prompts -/

/-- The history entry of a prompt that has closed (R55). -/
def closedEntry (q : Prompt) (o : PromptOutcome) (b : AnsweredBy) : Closed :=
  { id := q.id, kind := q.kind, outcome := o, by_ := b }

/-- s with prompt q closed: out of the list, and at the head of a history of 4 (R55, R59). -/
def promptGone (q : Prompt) (o : PromptOutcome) (b : AnsweredBy) (s : State) : State :=
  { s with prompts := { s.prompts with
      list := s.prompts.list.filter fun r => r.id ≠ q.id
      history := (closedEntry q o b :: s.prompts.history).take 4 } }

/-- The prompt that entry to step i raises (R33, R34, R149), as its record stands in the list (R50, R51). -/
def entryPrompt (i : Nat) (override : Option Nat) (s : State) : Option Prompt :=
  let record (k : PromptKind) (src : PromptSource) (timeout : Nat) (a : TimeoutAction) : Prompt :=
    { id := s.prompts.nextId, kind := k, source := src, raisedAt := s.run.runElapsed, timeout := timeout, action := a,
      remaining := if timeout = 0 then 3600 else timeout }
  match s.run.kind with
  | .cook =>
    match s.prog.steps[i]? with
    | some (.prompt k timeout a) => some (record k .step timeout a)
    | some (.cook _ d g) =>
      if (∃ e ∈ g, e.sensor = .probe) ∧ s.meas.present = false ∧ override = none then
        some (record .insertProbe .probe 600 (if d = none then .endRun else .goOn))
      else none
    | some (.preheat _) => none
    | some (.rest _ _) => none
    | none => none
  | .descale | .rinse =>
    match (builtinProgram s.run.kind)[i]? with
    | some (.prompt k) => some (record k .step 0 .endRun)
    | some .drain => none
    | some .fill => none
    | some .flush => none
    | some .soak => none
    | none => none
  | .none => none

/-- What happened to the prompts of the step and probe sources, with the prompts in order before it: all of them withdrawn, oldest
first, where withdraw says so (R28, R58), and then raised added under the next id (R51). A REFILL_TANK prompt that a frame start
withdrew heads the history (R58, R129). -/
def PromptsMoved (withdraw : Bool) (raised : Option Prompt) (s t : State) : Prop :=
  PromptsOrdered s → (∀ x ∈ raised, x.kind.source = x.source) →
    let ours := s.prompts.list.filter fun q => q.source ≠ .water
    let gone := if withdraw then ours else []
    let refill := s.prompts.list.filter fun q => q.source = .water ∧ ∀ r ∈ t.prompts.list, r.id ≠ q.id
    t.prompts.list.filter (fun q => q.source ≠ .water) = (if withdraw then [] else ours) ++ raised.toList
      ∧ t.prompts.history =
          ((refill ++ gone.reverse).map (fun q => closedEntry q .withdrawn .nobody) ++ s.prompts.history).take 4
      ∧ (raised.isSome = true → Holds .promptRaised t)
      ∧ (refill ++ gone ≠ [] → Holds .promptClosed t)

/-! ### The water operation -/

/-- s with its water operation returned to IDLE (R123). -/
def opIdle (s : State) : State := { s with water := { s.water with op := .idle, purpose := .none, attempt := none } }

/-- Condition 2, 3 or 4 of R91: BLOCK, rinse-owed, or the gate WITHHELD. -/
abbrev SteamDenied (s : State) : Prop := scaleState s = .block ∨ s.water.rinseOwed = true ∨ gateWithheld s = true

/-- A COOK fill is needed (R124), and the hold is clear (R131). -/
abbrev FillWanted (s : State) : Prop :=
  s.run.kind = .cook ∧ s.water.steamWanted = true ∧ ¬ SteamDenied s ∧ s.pins.boilerLevel = .dry ∧ s.water.op = .idle
    ∧ s.faults.hold = false

/-- A fill was begun from IDLE: attempt 1, no failures, and the attempt's tank check (R124, R125, R128). The flow count of a fill
that waits for the tank is kept (log entry 19). -/
def FillBegun (p : Purpose) (s t : State) : Prop :=
  t.water = { s.water with
      op := if tankOk s = false then .waitTank false else if s.pins.boilerLevel = .wet then .verifying else .filling
      purpose := p
      attempt := some 1
      failures := 0
      flow := if tankOk s then 0 else s.water.flow }
    ∧ (tankOk s = false → promptOpen t .refillTank = true)

/-- The test of R124 was made on s: a COOK fill begun where one is needed, and otherwise the operation as it stood. -/
def CookFillTested (s t : State) : Prop := if FillWanted s then FillBegun .cook s t else t.water = s.water

/-- An attempt of the fill failed (R127): the failure counted and RETRY_WAIT entered while the failures are within the retries
setting, and otherwise FILL_FAILED raised with the operation IDLE, where the fill need is tested (R124). The raised flag, and that
the test comes before the fault is taken, are the model's (log entry 11). -/
def AttemptFailed (s t : State) : Prop :=
  if s.water.failures < s.water.retries then
    t.water = { s.water with
        op := .retryWait, failures := s.water.failures + 1, attempt := s.water.attempt.map (· + 1) }
  else
    CookFillTested
      (opIdle { s with water := { s.water with failures := s.water.failures + 1, fillFailedRaises := s.water.fillFailedRaises + 1 } }) t

/-- Where a drain begins (R132): in pass 1 with BOIL published below 800, and in DRAIN_WAIT_COOL otherwise. -/
def drainStart (s : State) : WaterOp := if (∃ b ∈ published s .boil, b < 800) then .draining false else .drainWaitCool

/-- What entry to step i asked of the water unit (R144): a drain for DRAIN, a fill for FILL and FLUSH, nothing for the others. A
drain asked for outside IDLE waits (log entry 12). -/
def StepWater (i : Nat) (s t : State) : Prop :=
  match (builtinProgram s.run.kind)[i]? with
  | some .drain =>
    t.water =
      if s.water.op.draining? = true then s.water
      else if s.water.op = .idle ∧ s.faults.hold = false then
        { s.water with op := drainStart s, purpose := .step, stepDrainWaiting := false }
      else { s.water with stepDrainWaiting := true }
  | some .fill | some .flush =>
    if s.water.op = .idle ∧ s.faults.hold = false then FillBegun .step s t else t.water = s.water
  | some .soak | some (.prompt _) => t.water = s.water
  | none => t.run.state ≠ .running → t.water = s.water

/-- What a frame start of a COOK run did in the water unit (R124, R129): steam wanted set or cleared, a COOK fill whose need has
gone ended in WAIT_TANK with its prompt withdrawn, and otherwise the fill need tested. -/
def WaterAtFrame (steamLevel : Nat) (s t : State) : Prop :=
  let b := { s with water := { s.water with steamWanted := decide (0 < steamLevel ∧ ¬ SteamDenied s) } }
  if b.water.steamWanted = false ∧ s.water.op.waitingTank = true ∧ s.water.purpose = .cook then
    promptOpen t .refillTank = false
      ∧ (s.water.drainPending = false → s.water.stepDrainWaiting = false → t.water = (opIdle b).water)
  else CookFillTested b t

/-! ### Slots -/

/-- s as a slot start finds it (R115): where no budget has been computed since the latest reset and the scheduler still owes one, with
BUDGET_RECOMPUTE taken first (log entry 10). -/
def slotFinds (s : State) : State :=
  if s.sched.measured = true then s
  else
    match exec .budgetRecompute s with
    | .next u => u
    | .fault _ => s
    | .refused _ => s

/-! ### A frame's demand -/

/-- The demand unit's figures of a new frame for a heating of the program table (R89 to R92, R19): the cavity demand from CAV with
the row's hold factor and band, each element's request from its share rounded half up with the FAST_PREHEAT additions, the fan,
the steam condition, and BOILER only with steam ADMITTED: full slots below 960, the level's slots from there on, halved with VENT
at 990 or more, none without a BOIL value or with the level DRY. Of steam WITHHELD the frame makes its report under the mark of R93,
and no other. -/
def HeatRequested (h : Heat) (fast : Bool) (s t : State) : Prop :=
  let row := shareRow h.mode
  let extra : Nat := if fast then 50 else 0
  let demand : Int → Nat := fun cav =>
    (max 0 (min 100 ((h.setpoint * row.hold).tdiv 1000 + ((h.setpoint - cav) * 100).tdiv row.band))).toNat
  let slots : Nat → Nat → Nat := fun d share => (d * share * 40 + 5000) / 10000
  t.demand.cavityDemand = (published s .cav).map demand
    ∧ (let d := ((published s .cav).map demand).getD 0
      t.demand.requests.ring = slots d row.ring ∧ t.demand.requests.top = slots d (row.top + extra)
        ∧ t.demand.requests.bottom = slots d row.bottom ∧ t.demand.requests.grill = slots d (row.grill + extra))
    ∧ t.demand.fanDuty = h.fan ∧ t.demand.fastApplied = fast
    ∧ t.demand.steam = (if h.steam = 0 then .notSteaming else if SteamDenied s then .withheld else .admitted)
    ∧ t.demand.requests.boiler =
        (if t.demand.steam = .admitted ∧ s.pins.boilerLevel = .wet then
          match published s .boil with
          | none => 0
          | some b =>
            if b < 960 then 40
            else if (∃ v ∈ published s .vent, 990 ≤ v) then (h.steam * 40 + 50) / 100 / 2
            else (h.steam * 40 + 50) / 100
        else 0)
    ∧ SteamReported s t ∧ (t.demand.steam = .withheld → s.demand.reported = false ∨ SteamUnreported s t)
    ∧ (t.demand.steam ≠ .withheld → SteamUnreported s t)
    ∧ WaterAtFrame h.steam s t

/-- The figures of a frame that asks for no heat, with this fan duty (R96): no steam, and so no report of it (R93). -/
def NothingRequested (fan : Nat) (s t : State) : Prop :=
  t.demand = {
    requests := { ring := 0, top := 0, bottom := 0, grill := 0, boiler := 0 }
    cavityDemand := none
    fanDuty := fan
    steam := .notSteaming
    reported := s.demand.reported
    fastApplied := false }
    ∧ SteamUnreported s t

/-- The figures of a SOAK frame (R95): BOILER alone, from BOIL and the level. -/
def SoakRequested (s t : State) : Prop :=
  t.demand = {
    requests := {
      ring := 0, top := 0, bottom := 0, grill := 0
      boiler :=
        if s.pins.boilerLevel = .dry then 0
        else ((published s .boil).map fun b => (max 0 (min 40 (((600 - b) * 40).tdiv 50))).toNat).getD 0 }
    cavityDemand := none
    fanDuty := 0
    steam := .notSteaming
    reported := s.demand.reported
    fastApplied := false }
    ∧ SteamUnreported s t

/-- The figures of a KEEP_WARM frame (R35, R96): TOPBOTTOM at 650 without steam and fan, and the frame test of a step that does not
steam. -/
def KeepWarmRequested (s t : State) : Prop :=
  t.demand.cavityDemand = ((published s .cav).map fun cav =>
      (max 0 (min 100 (9 + ((650 - cav) * 100).tdiv 120))).toNat)
    ∧ (let d := t.demand.cavityDemand.getD 0
      t.demand.requests =
        { ring := 0, top := (d * 2400 + 5000) / 10000, bottom := (d * 4000 + 5000) / 10000, grill := 0, boiler := 0 })
    ∧ t.demand.fanDuty = 0 ∧ t.demand.steam = .notSteaming ∧ t.demand.reported = s.demand.reported
    ∧ t.demand.fastApplied = false ∧ SteamUnreported s t ∧ (s.run.kind = .cook → WaterAtFrame 0 s t)

/-- The figures of a frame of a step of the program table (R88): a PREHEAT step with the FAST_PREHEAT additions where R19 gives them. -/
def StepRequested (x : Machine.Step) (s t : State) : Prop :=
  match x with
  | .preheat h => HeatRequested h (s.run.options.fastPreheat && (h.mode = .convect || h.mode = .combi)) s t
  | .cook h _ _ => HeatRequested h false s t
  | .rest f _ => NothingRequested f s t ∧ WaterAtFrame 0 s t
  | .prompt _ _ _ => NothingRequested 0 s t ∧ WaterAtFrame 0 s t

/-- The figures of a frame of a PROMPT step at i (R33, R88): the heating of the nearest earlier step that is not a PROMPT step, and
none where that is a REST step or there is none. -/
def PromptRequested (i : Nat) (s t : State) : Prop :=
  let isPrompt : Machine.Step → Bool := fun x =>
    match x with
    | .prompt _ _ _ => true
    | .preheat _ => false
    | .cook _ _ _ => false
    | .rest _ _ => false
  match ((s.prog.steps.take i).reverse.dropWhile isPrompt).head? with
  | some (.preheat h) => StepRequested (.preheat h) s t
  | some (.cook h d g) => StepRequested (.cook h d g) s t
  | some (.rest _ _) => NothingRequested 0 s t ∧ WaterAtFrame 0 s t
  | some (.prompt _ _ _) => False
  | none => NothingRequested 0 s t ∧ WaterAtFrame 0 s t

/-- The demand unit's figures and the water unit's frame test of a frame that a run begins, from s with the run record and the
program of that moment (R86, R88): the table of R88 by phase, kind and step. -/
def FrameAsked (s t : State) : Prop :=
  match s.run.phase, s.run.kind with
  | .keepWarm, _ => KeepWarmRequested s t
  | .steps, .cook =>
    match s.prog.steps[s.run.stepIdx]? with
    | some (.prompt _ _ _) => PromptRequested s.run.stepIdx s t
    | some x => StepRequested x s t
    | none => True
  | .steps, .descale =>
    if s.run.stepIdx = 3 ∨ s.run.stepIdx = 6 then SoakRequested s t else NothingRequested 0 s t
  | .steps, .rinse => NothingRequested 0 s t
  | .steps, .none => True

/-- A new frame was begun (R86, R87): the demand unit's figures for the heating in force, its report (R93), the drain-on-end mark of a
COOK run's frame ADMITTED to steam (R170), and each entry's request formed under its ramp limit, with slot 0 not yet decided (R102,
R103). -/
def FrameBegun (s t : State) : Prop :=
  SteamReported s t ∧ FrameAsked { s with run := t.run, prog := t.prog } t
    ∧ t.modes.drainOnEnd = (s.modes.drainOnEnd || decide (t.run.kind = .cook ∧ t.demand.steam = .admitted))
    ∧ (∀ l, t.sched.entries.get l =
      { s.sched.entries.get l with
        request := frameRequest (s.sched.entries.get l) (t.demand.requests.get l)
        remaining := frameRequest (s.sched.entries.get l) (t.demand.requests.get l)
        granted := 0
        rampBase := frameRequest (s.sched.entries.get l) (t.demand.requests.get l)
        sheds := 0 })
    ∧ t.sched = { s.sched with entries := t.sched.entries, frameRunning := true, slot := 0, slotStarted := false }

/-- A new frame was begun where the run is in RUNNING, and otherwise the loads and the demand unit are as they were (R87). -/
def Restarted (s t : State) : Prop :=
  if t.run.state = .running then FrameBegun s t else t.sched = s.sched ∧ t.demand = s.demand

/-! ### Step records on the wire -/

/-- A written guard entry that R3 and R9 refuse with INVALID_STEP: a sensor or option that is no code, a t2 (absent as -32,768) where
the option calls for none or none where it calls for one, a negative NEAR tolerance, or t1 above t2 for INSIDE and OUTSIDE. -/
abbrev GuardInvalid (g : GuardWire) : Prop :=
  (g.sensor.toNat = 0 ∨ 4 < g.sensor.toNat) ∨ (g.option.toNat = 0 ∨ 5 < g.option.toNat)
    ∨ (g.option.toNat ≤ 2 ∧ g.t2.toInt ≠ -32768) ∨ (3 ≤ g.option.toNat ∧ g.t2.toInt = -32768)
    ∨ (g.option.toNat = 3 ∧ g.t2.toInt < 0) ∨ (4 ≤ g.option.toNat ∧ g.t2.toInt < g.t1.toInt)

/-- A written guard entry that R9 refuses with RANGE, its codes being right. -/
abbrev GuardOutOfRange (g : GuardWire) : Prop :=
  (g.t1.toInt < -500 ∨ 4000 < g.t1.toInt) ∨ (g.option.toNat = 3 ∧ 1000 < g.t2.toInt)
    ∨ (4 ≤ g.option.toNat ∧ (g.t2.toInt < -500 ∨ 4000 < g.t2.toInt))

/-- A written step record that R3, R8, R9 and R193 refuse with INVALID_STEP: a guard count (bits 5 to 7 of the parts byte) above 4
or against the entries received, or entries without the guard list; a kind other than PREHEAT 1, COOK 2, PROMPT 3 and REST 4; a part
missing or carried that the kind does not call for (bits 0 to 4: heating, fan, duration, guard list, prompt); a COOK record with
neither duration nor guard; or a field that holds no code of its own, a prompt kind other than ADD_FOOD 1, TURN_FOOD 2 and
CHECK_DONENESS 4 among them. -/
abbrev RecordInvalid (w : StepWire) : Prop :=
  (4 < w.parts.toNat / 32 ∨ w.parts.toNat / 32 ≠ w.guards.length ∨ (w.guards ≠ [] ∧ w.parts.getLsbD 3 = false))
    ∨ (w.kind.toNat = 0 ∨ 4 < w.kind.toNat)
    ∨ (w.kind.toNat = 1 ∧
        (w.parts.getLsbD 0 = false ∨ w.parts.getLsbD 1 = false ∨ w.parts.getLsbD 2 = true ∨ w.parts.getLsbD 3 = true
          ∨ w.parts.getLsbD 4 = true ∨ w.mode.toNat = 0 ∨ 7 < w.mode.toNat))
    ∨ (w.kind.toNat = 2 ∧
        (w.parts.getLsbD 0 = false ∨ w.parts.getLsbD 1 = false ∨ w.parts.getLsbD 3 = false ∨ w.parts.getLsbD 4 = true
          ∨ (w.parts.getLsbD 2 = false ∧ w.guards = []) ∨ w.mode.toNat = 0 ∨ 7 < w.mode.toNat
          ∨ ∃ g ∈ w.guards, GuardInvalid g))
    ∨ (w.kind.toNat = 3 ∧
        (w.parts.getLsbD 0 = true ∨ w.parts.getLsbD 1 = true ∨ w.parts.getLsbD 2 = true ∨ w.parts.getLsbD 3 = true
          ∨ w.parts.getLsbD 4 = false ∨ (w.promptKind.toNat ≠ 1 ∧ w.promptKind.toNat ≠ 2 ∧ w.promptKind.toNat ≠ 4)
          ∨ (w.action.toNat ≠ 1 ∧ w.action.toNat ≠ 2)))
    ∨ (w.kind.toNat = 4 ∧
        (w.parts.getLsbD 0 = true ∨ w.parts.getLsbD 1 = false ∨ w.parts.getLsbD 2 = false ∨ w.parts.getLsbD 3 = true
          ∨ w.parts.getLsbD 4 = true))

/-- A written record, right in its parts and codes, that R7, R8 and R9 refuse with RANGE. -/
abbrev RecordOutOfRange (w : StepWire) : Prop :=
  (((w.kind.toNat = 2 ∧ w.parts.getLsbD 2 = true) ∨ w.kind.toNat = 4)
      ∧ (w.duration.toNat = 0 ∨ 43200 < w.duration.toNat))
    ∨ (w.kind.toNat = 3 ∧ (1 ≤ w.timeout.toNat ∧ w.timeout.toNat ≤ 9 ∨ 3600 < w.timeout.toNat))
    ∨ (w.kind.toNat = 2 ∧ ∃ g ∈ w.guards, GuardOutOfRange g)

/-- The heating part of a record as its bytes give it. -/
abbrev HeatWritten (w : StepWire) (h : Heat) : Prop :=
  heatModeCode h.mode = w.mode ∧ h.setpoint = w.setpoint.toInt ∧ h.steam = w.steam.toNat ∧ h.fan = w.fan.toNat

/-- A guard as its entry gives it. -/
abbrev GuardWritten (e : GuardWire) (g : Guard) : Prop :=
  channelCode g.sensor = e.sensor ∧
    match g.test with
    | .atMost t1 => e.option.toNat = 1 ∧ t1 = e.t1.toInt
    | .atLeast t1 => e.option.toNat = 2 ∧ t1 = e.t1.toInt
    | .near t1 t2 => e.option.toNat = 3 ∧ t1 = e.t1.toInt ∧ t2 = e.t2.toInt
    | .inside t1 t2 => e.option.toNat = 4 ∧ t1 = e.t1.toInt ∧ t2 = e.t2.toInt
    | .outside t1 t2 => e.option.toNat = 5 ∧ t1 = e.t1.toInt ∧ t2 = e.t2.toInt

/-- A record as its head and guard entries give it, before any clamp (R193). -/
abbrev RecordWritten (w : StepWire) (x : Machine.Step) : Prop :=
  match x with
  | .preheat h => w.kind.toNat = 1 ∧ HeatWritten w h
  | .cook h d g =>
    w.kind.toNat = 2 ∧ HeatWritten w h ∧ d = (if w.parts.getLsbD 2 then some w.duration.toNat else none)
      ∧ g.length = w.guards.length ∧ ∀ p ∈ w.guards.zip g, GuardWritten p.1 p.2
  | .prompt k timeout a =>
    w.kind.toNat = 3 ∧ promptKindCode k = w.promptKind ∧ timeout = w.timeout.toNat ∧ actionCode a = w.action
  | .rest fan d => w.kind.toNat = 4 ∧ fan = w.fan.toNat ∧ d = w.duration.toNat

/-! ### Steps -/

/-- The blocks an entered step may touch beside the run record. -/
def stepBlocks : List Block := [.ports, .run, .prompts, .demand, .sched, .water, .modes]

/-- Step i was entered from s (R28): the run record rewritten, STEP_ADVANCED posted, a new frame begun in RUNNING with the report
mark clear (R93), the step and probe prompts withdrawn and the step's own raised, its water operation asked for (R144), and every
block apart from a run's and the extra ones left alone. The record's mark of a counted second and the schedule's mark of a decided
slot are the model's own (log entries 6, 7). -/
def StepEnteredAlso (extra : List Block) (i : Nat) (override : Option Nat) (s t : State) : Prop :=
  t.run = { s.run with
      stepIdx := i
      stepElapsed := 0
      durOverride := override
      probeDeclined := false
      flushPart := if (builtinProgram s.run.kind)[i]? = some .flush then some .fill else none
      flushHold := 0
      secondDue := false }
    ∧ Holds .stepAdvanced t ∧ Restarted { s with demand := { s.demand with reported := false } } t
    ∧ PromptsMoved true (entryPrompt i override s) s t ∧ StepWater i s t ∧ SameExcept (extra ++ stepBlocks) s t

def StepEntered (i : Nat) (override : Option Nat) (s t : State) : Prop := StepEnteredAlso [] i override s t

/-! ### Run end -/

/-- The blocks a run's end may touch. -/
def endBlocks : List Block := [.ports, .run, .prompts, .meas, .demand, .sched, .water, .modes, .store]

/-- A fill in VERIFYING that the run's end concludes as a success (R131). -/
def concludes (s : State) : Bool := s.water.op = .verifying && s.pins.boilerLevel = .wet

/-- The run's end accrues scale from that fill (R131, R134). -/
def accruesAtEnd (s : State) : Bool :=
  concludes s && s.water.purpose = .cook && s.run.kind = .cook && !s.water.rinseOwed

/-- The account's sum at that accrual, in micrograms over the account (R134). -/
def accrualAtEnd (s : State) : Nat := s.water.remainder + s.water.flow / 2 * s.water.hardness

/-- The account after the run's end (R134). -/
def accountAtEnd (s : State) : Nat :=
  if accruesAtEnd s then min (s.water.account + accrualAtEnd s / 1000) 65535 else s.water.account

/-- The drain-on-end mark after the run's end: the success of a COOK fill sets it (R170). -/
def markAtEnd (s : State) : Bool := s.modes.drainOnEnd || (concludes s && s.water.purpose = .cook)

/-- The after-run drain is requested (R170), given whether a built-in run did its final drain (R154). -/
def drainAsked (finalDrain : Bool) (s : State) : Bool :=
  match s.run.kind with
  | .cook => markAtEnd s
  | .descale => !finalDrain
  | .rinse => !finalDrain
  | .none => false

/-- The requested drain is recorded (R132): one pending or in progress adds nothing. -/
def drainRecorded (finalDrain : Bool) (s : State) : Bool :=
  drainAsked finalDrain s && !s.water.op.draining? && !s.water.drainPending

/-- The water unit at a run's end (R131, R132, R134, R136): a drain goes on for AFTER_RUN, any other operation returns to IDLE with
VERIFYING concluded on the level, steam wanted is cleared, and a recorded after-run drain begins while the hold is clear. -/
def WaterAtEnd (finalDrain : Bool) (s t : State) : Prop :=
  let begins := drainRecorded finalDrain s && !s.faults.hold
  t.water = { s.water with
    op := if s.water.op.draining? = true then s.water.op else if begins = true then drainStart s else .idle
    purpose :=
      if s.water.op.draining? = true ∨ begins = true then .afterRun
      else if s.water.op = .idle then s.water.purpose
      else .none
    attempt := if s.water.op = .idle ∨ s.water.op.draining? = true then s.water.attempt else none
    lastFill := if concludes s then some (s.water.flow / 2) else s.water.lastFill
    drainPending := s.water.drainPending || drainRecorded finalDrain s
    steamWanted := false
    stepDrainWaiting := false
    account := accountAtEnd s
    remainder := if accruesAtEnd s then accrualAtEnd s % 1000 else s.water.remainder
    savedMg := accountAtEnd s }

/-- The mode at a run's end (R170, R171): AFTER_RUN, COOLED where CAV publishes below 700 and else COOLING, with the fan at 40
while COOLING with the door closed and CAV above 700 (R166), CAV read with any calibration change since the round (log entry 18);
READY with the idle timer at 600 where it is COOLED and no after-run drain is owed. -/
def ModeAtEnd (s t : State) : Prop :=
  let cooled : Prop := ∃ v ∈ published s .cav, v < 700
  let owed : Prop := t.water.drainPending = true ∨ (t.water.op.draining? = true ∧ t.water.purpose = .afterRun)
  (cooled → ¬ owed →
      t.modes = { s.modes with
        mode := .ready, idle := some 600, cooling := none, drainOnEnd := markAtEnd s, fanOut := 0 })
    ∧ (¬ cooled ∨ owed →
      t.modes = { s.modes with
        mode := .afterRun
        idle := none
        cooling := some (if cooled then .cooled else .cooling)
        drainOnEnd := markAtEnd s
        fanOut := if ¬ cooled ∧ s.pins.doorOpen = false ∧ (∃ v ∈ published s .cav, 700 < v) then 40 else 0 })
    ∧ (s.modes.mode ≠ .afterRun → Holds .modeChanged t)

/-- The run ended (R42): the record, the loads, the prompts withdrawn oldest first (R58), the water operation, the mode, the
account saved (R136; a save of an accrual of 500 mg or more goes before it) and RUN_CHANGED; a round not yet judged stays so
(R11). That the FLUSH part is cleared is the model's reading (log entry 13). -/
def RunEnded (cause : EndCause) (finalDrain : Bool) (s t : State) : Prop :=
  t.run = { s.run with state := .ended, endCause := some cause, held := none, durOverride := none, flushPart := none }
    ∧ LoadsCut s t
    ∧ t.prompts.list = [] ∧ t.prompts.nextId = s.prompts.nextId
    ∧ (s.prompts.history.length ≤ 4 →
        t.prompts.history =
          ((s.prompts.list.reverse.map fun q => closedEntry q .withdrawn .nobody) ++ s.prompts.history).take 4)
    ∧ (s.prompts.list ≠ [] → Holds .promptClosed t)
    ∧ WaterAtEnd finalDrain s t ∧ ModeAtEnd s t
    ∧ t.store = { s.store with
        flight := some (s.store.flight.getD (.save (liveRecord t) false))
        savePending :=
          s.store.savePending || s.store.flight.isSome
            || (accruesAtEnd s && decide (500 ≤ accountAtEnd s - s.water.savedMg)) }
    ∧ t.meas = { s.meas with owed := { s.meas.owed with judgement := false } }
    ∧ Holds .runChanged t
    ∧ SameExcept endBlocks s t

/-! ### The fault hold -/

/-- s with its water operation stopped (R131, R158): nothing concluded, and a REFILL_TANK open in WAIT_TANK withdrawn (R58). -/
def opStopped (s : State) : State :=
  let refill := s.prompts.list.filter fun q => s.water.op.waitingTank = true ∧ q.kind = .refillTank
  let idle := opIdle s
  { idle with prompts :=
      if refill = [] then s.prompts
      else { s.prompts with
        list := s.prompts.list.filter fun q => q.kind ≠ .refillTank
        history := (refill.map (fun q => closedEntry q .withdrawn .nobody) ++ s.prompts.history).take 4 } }

/-- What the entry into the fault hold did beside the hold and the capture, from s with the hold set (R158): the water operation
stopped; an active run ended with cause FAULT, its prompts withdrawn, the account saved and an after-run drain recorded in drain
pending; with no run AFTER_RUN entered and no drain requested, from STANDBY as a wake. A WAIT_TANK is spoken of with the prompts in
order. -/
def HoldEntered (s t : State) : Prop :=
  (s.water.op.waitingTank = true → PromptsOrdered s) →
    (runActive s = true → s.modes.mode ≠ .standby → RunEnded .fault false (opStopped s) t)
      ∧ (runActive s = false →
          t.run = s.run ∧ LoadsCut s t ∧ t.water = (opStopped s).water ∧ t.prompts = (opStopped s).prompts
            ∧ t.store = s.store
            ∧ (s.modes.mode = .standby →
                t.meas.schedule = .atOnce
                  ∧ ModeAtEnd { opStopped s with modes := { s.modes with fresh := false } } t)
            ∧ (s.modes.mode = .ready ∨ s.modes.mode = .active → ModeAtEnd (opStopped s) t)
            ∧ (s.modes.mode = .afterRun → t.modes = s.modes))

/-! ### Advance -/

/-- s with a save of the appliance record asked for (R174). -/
def saveAsked (s : State) : State :=
  { s with store :=
      match s.store.flight with
      | none => { s.store with flight := some (.save (liveRecord s) false) }
      | some _ => { s.store with savePending := true } }

/-- s as the completion of a descale leaves the water unit before the run's end (R152). -/
def descaleDone (s : State) : State :=
  saveAsked { s with water := { s.water with
    account := 0
    remainder := 0
    savedMg := 0
    rinseOwed := false
    descaleCount := min (s.water.descaleCount + 1) 65535 } }

/-- s as the completion of a rinse leaves the water unit before the run's end (R153). -/
def rinseDone (s : State) : State := saveAsked { s with water := { s.water with rinseOwed := false } }

/-- The KEEP_WARM phase was entered (R35): step elapsed 0, a new frame in RUNNING, and the prompts as they stood, which is the
model's reading (log entry 9). -/
def KeepWarmEntered (s t : State) : Prop :=
  t.run = { s.run with phase := .keepWarm, stepElapsed := 0, secondDue := false }
    ∧ Holds .stepAdvanced t ∧ Restarted s t ∧ PromptsMoved false none s t
    ∧ (t.run.state ≠ .running → t.water = s.water) ∧ SameExcept stepBlocks s t

/-- The run advanced past its current step (R29, R152, R153): the next step entered, the KEEP_WARM phase entered, or the run ended
COMPLETED, a built-in program with its completion first and its final drain done. -/
def Advanced (s t : State) : Prop :=
  if s.run.stepIdx + 1 < programLength s then StepEntered (s.run.stepIdx + 1) none s t
  else
    match s.run.kind with
    | .cook => if s.run.options.keepWarm = true then KeepWarmEntered s t else RunEnded .completed false s t
    | .descale => RunEnded .completed true (descaleDone s) t
    | .rinse => RunEnded .completed true (rinseDone s) t
    | .none => SameExcept [.ports] s t

end Sys2Proof.Machine
end

