-- ==== Sys2Proof/Certificates/Slice0/Obligations.lean ====
section
/-! DEFINITION. The statements for the provers: what each command and event does, with what it leaves alone, and what every
step keeps. A statement about a command speaks of the state its owner finds, heardBy p s (R185). -/

open Sys2Proof Sys2Proof.Machine

/-! ### The queue, and the frames that spell commands -/

/-- The command at the front of the queue runs on the rest of the queue; an empty queue idles, which is the model's choice (log
entry 5). -/
def Obligations.QueueFrontRuns : Prop :=
  (∀ (c : Instr) (rest : List Instr) (s : State), s.pending = c :: rest → step s = exec c { s with pending := rest })
    ∧ ∀ s : State, s.pending = [] → step s = .next s

/-- Every command and event completes in every state, and none adds to the queue or takes from it. That an event whose occasion
does not stand completes and changes nothing, and that the queue outlives a reset, are the model's choices (log entry 5). -/
def Obligations.EveryCommandCompletes : Prop :=
  ∀ (c : Instr) (s : State), ∃ t, exec c s = .next t ∧ t.pending = s.pending

/-- The frame of a well-formed command, or the bytes of a form-check failure, gives that command back (12.2, 12.6, R192, R193). -/
def Obligations.FrameSpellsItsCommand : Prop :=
  ∀ (i : Instr) (p : Port) (bytes : List Byte),
    i.wf = true → frameOf i = some (p, bytes) → ofFrame p bytes = some i

/-- What a frame gives is well formed and is sent in that very frame: no two frames of a port give one command. -/
def Obligations.CommandHasOneFrame : Prop :=
  ∀ (i : Instr) (p : Port) (bytes : List Byte),
    ofFrame p bytes = some i → frameOf i = some (p, bytes) ∧ i.wf = true

/-- A record the table may hold, sent back as GET_STEP returns it, is accepted, in range and stored unchanged (R173, R193). -/
def Obligations.StoredRecordsReadBack : Prop :=
  ∀ x : Step, x.acceptable = true →
    ((stepOfBytes (stepBytes x)).bind stepOfWire = some x) ∧ stepInRange x = true ∧ clampStep x = x ∧ stepClamped x = false

/-! ### Reading commands -/

/-- The reading commands without parameters answer OK with their payload from the state as it stands, wake nothing and change
nothing but their own port's answer. GET_STEP returns length, origin and the record below the length, and refuses an index at
or past it with INDEX, length and origin (R17). The last part lays out the payloads of GET_RUN, GET_SENSORS (whose reference
counts fit their two bytes), GET_LOADS, GET_WATER and GET_PROMPTS byte by byte (R20, R82, R99, R119, R139, R59, R192);
GET_STATUS and GET_FAULT have statements of their own. The payloads use the codes and the order of log entry 4, and that the
OUT_OF_TABLE byte of a channel without a published value reads 0 is the model's choice (log entry 17). -/
def Obligations.ReadingCommandsReport : Prop :=
  ((∀ (p : Port) (s : State),
    (∃ t, exec (.getStatus p) s = .next t ∧ OnlyAnswered p 0x01 .ok (statusPayload p s) s t)
      ∧ (∃ t, exec (.getRun p) s = .next t ∧ OnlyAnswered p 0x02 .ok (runPayload s) s t)
      ∧ (∃ t, exec (.getSensors p) s = .next t ∧ OnlyAnswered p 0x04 .ok (sensorsPayload s) s t)
      ∧ (∃ t, exec (.getLoads p) s = .next t ∧ OnlyAnswered p 0x05 .ok (loadsPayload s) s t)
      ∧ (∃ t, exec (.getWater p) s = .next t ∧ OnlyAnswered p 0x06 .ok (waterPayload s) s t)
      ∧ (∃ t, exec (.getFault p) s = .next t ∧ OnlyAnswered p 0x07 .ok (faultPayload s) s t)
      ∧ (∃ t, exec (.getPrompts p) s = .next t ∧ OnlyAnswered p 0x08 .ok (promptsPayload s) s t))
  ∧ (∀ (p : Port) (index : Byte) (s : State),
    (∀ x, s.prog.steps[index.toNat]? = some x →
      ∃ t, exec (.getStep p index) s = .next t
        ∧ OnlyAnswered p 0x03 .ok (BitVec.ofNat 8 s.prog.steps.length :: originByte s.prog.origin :: stepBytes x) s t)
      ∧ (s.prog.steps.length ≤ index.toNat →
        ∃ t, exec (.getStep p index) s = .next t
          ∧ OnlyAnswered p 0x03 .index [BitVec.ofNat 8 s.prog.steps.length, originByte s.prog.origin] s t)))
  ∧ (∀ s : State,
    RunLayout (runPayload s) s ∧ SensorsLayout (sensorsPayload s) s ∧ LoadsLayout (loadsPayload s) s
      ∧ WaterLayout (waterPayload s) s ∧ PromptsLayout (promptsPayload s) s)

/-- GET_NOTICES returns the sending port's set in order, empties it and releases its line, and leaves the other sets; a line is
asserted while its set holds a kind (R189, R190). -/
def Obligations.GetNoticesTakesTheSet : Prop :=
  ∀ (p : Port) (s : State), ∃ t, exec (.getNotices p) s = .next t
    ∧ Answered p 0x09 .ok
        (BitVec.ofNat 8 (s.ports.get p).notices.length :: (s.ports.get p).notices.map noticeCode) s t
    ∧ (t.ports.get p).notices = [] ∧ attention t p = false
    ∧ (∀ q, attention t q = true ↔ (t.ports.get q).notices ≠ [])
    ∧ (∀ q, q ≠ p → (t.ports.get q).notices = (s.ports.get q).notices)
    ∧ SameExcept [.ports] s t

/-- GET_STATUS answers with the 22 bytes of R194, with the light as R166 gives it, changes nothing but the port's answer, and
differs between two ports in bytes 19 and 20 alone. That the bits without a meaning read 0 is the model's choice (log entry
22), and the layout leaves them open. -/
def Obligations.StatusPayloadLayout : Prop :=
  ∀ (p : Port) (s : State), s.store.slots.length = 24 →
    (∃ t, exec (.getStatus p) s = .next t ∧ OnlyAnswered p 0x01 .ok (statusPayload p s) s t)
      ∧ (∀ q, (statusPayload q s).take 19 = (statusPayload p s).take 19
          ∧ (statusPayload q s)[21]? = (statusPayload p s)[21]?)
      ∧ StatusLayout (statusPayload p s) p s

/-- GET_FAULT answers with the 17 bytes of R195 and changes nothing but the port's answer; while the hold is clear, bytes 1 to 13
read as absent. The hypothesis, a capture exactly under the hold, is part of HoldExcludesRun (LoadsAndHoldStaySafe).
That the bits without a meaning read 0 is the model's choice (log entry 22), and the layout leaves them open. -/
def Obligations.FaultPayloadLayout : Prop :=
  ∀ (p : Port) (s : State), s.faults.capture.isSome = s.faults.hold →
    (∃ t, exec (.getFault p) s = .next t ∧ OnlyAnswered p 0x07 .ok (faultPayload s) s t)
      ∧ FaultLayout (faultPayload s) s

/-- RECIPE_READ makes the checks of R178 in order, each refusal with the slot's state, and answers a header or a record as R193
lays them out. Which byte stands for the state of a slot past the library is left open here. -/
def Obligations.RecipeReadAnswers : Prop :=
  (∀ (p : Port) (slot part : Byte) (s : State), 24 ≤ slot.toNat →
    ∃ t, exec (.recipeRead p slot part) s = .next t ∧ ∃ state, OnlyAnswered p 0x0A .range [state] (heardBy p s) t)
  ∧ ∀ (p : Port) (slot part : Byte) (x : Slot) (s : State), s.store.slots.length = 24 → s.store.slots[slot.toNat]? = some x →
    ∃ t, exec (.recipeRead p slot part) s = .next t ∧
      if 16 ≤ part.toNat ∧ part ≠ 0xFF then OnlyAnswered p 0x0A .range [slotCode x] (heardBy p s) t
      else if writingSlot s.store slot.toNat = true then OnlyAnswered p 0x0A .storeBusy [slotCode x] (heardBy p s) t
      else
        match x with
        | .empty => OnlyAnswered p 0x0A .empty [1] (heardBy p s) t
        | .corrupt => OnlyAnswered p 0x0A .corrupt [3] (heardBy p s) t
        | .valid r =>
          if part = 0xFF then
            OnlyAnswered p 0x0A .ok
              ([2, categoryCode r.category, BitVec.ofNat 8 r.steps.length, BitVec.ofNat 8 r.name.length] ++ r.name)
              (heardBy p s) t
          else
            match r.steps[part.toNat]? with
            | some y => OnlyAnswered p 0x0A .ok ([2, BitVec.ofNat 8 r.steps.length] ++ stepBytes y) (heardBy p s) t
            | none => OnlyAnswered p 0x0A .index [2] (heardBy p s) t

/-! ### The program table and the library -/

/-- PROGRAM_PUT_STEP makes its checks in the order of R12; a record that passes is clamped and replaces the one at its
index or is appended, the origin becomes EDITED, and the answer carries the new length (R13). The second part gives the
stored setpoint, steam level and fan level of a written heating part (R4, R5, R6), the fan of a REST record, and which
records count as clamped: a stored value that differs from the written one, a resolved default fan apart (R6, R13). The
last part gives, in the bytes of the record, which records are INVALID_STEP (R3, R8, R9, R193), which of the others are
RANGE (R7, R8, R9), and which record the bytes spell.That a refusal with INDEX carries no payload is the model's choice
(log entry 23). -/
def Obligations.PutStepStores : Prop :=
  (∀ (p : Port) (index : Byte) (w : StepWire) (s : State), ∃ t, exec (.programPutStep p index w) s = .next t ∧
    if 16 ≤ index.toNat ∨ s.prog.steps.length < index.toNat then OnlyAnswered p 0x10 .index [] (heardBy p s) t
    else if cookActive s = true ∧ index.toNat ≤ s.run.stepIdx then OnlyAnswered p 0x10 .busy [] (heardBy p s) t
    else
      match stepOfWire w with
      | none => OnlyAnswered p 0x10 .invalidStep [] (heardBy p s) t
      | some x =>
        if stepInRange x = false then OnlyAnswered p 0x10 .range [] (heardBy p s) t
        else
          Answered p 0x10 (if stepClamped x then .clamped else .ok) [BitVec.ofNat 8 t.prog.steps.length] (heardBy p s) t
            ∧ Posted [] (heardBy p s) t ∧ SameExcept [.ports, .prog] (heardBy p s) t
            ∧ t.prog.origin = .edited
            ∧ t.prog.steps =
                if index.toNat < s.prog.steps.length then s.prog.steps.set index.toNat (clampStep x)
                else s.prog.steps ++ [clampStep x])
  ∧ (∀ h : Heat,
    (clampHeat h).setpoint = max 300 (min h.setpoint (if h.mode = .steam then 1000 else 2500))
      ∧ (clampHeat h).steam =
          (match h.mode with
          | .combi => max 10 (min h.steam 90)
          | .steam => 100
          | .convect | .topBottom | .bottom | .grill | .grillFan => 0)
      ∧ (clampHeat h).fan = (if h.fan = 255 then (shareRow h.mode).fan else min h.fan 100)
      ∧ (clampHeat h).mode = h.mode ∧ (clampHeat (clampHeat h)) = clampHeat h
      ∧ (∀ (d : Option Nat) (g : List Guard),
        clampStep (.preheat h) = .preheat (clampHeat h) ∧ clampStep (.cook h d g) = .cook (clampHeat h) d g
          ∧ stepClamped (.cook h d g) = stepClamped (.preheat h))
      ∧ (stepClamped (.preheat h) = true ↔
          (clampHeat h).setpoint ≠ h.setpoint ∨ (clampHeat h).steam ≠ h.steam ∨ (h.fan ≠ 255 ∧ 100 < h.fan)))
  ∧ (∀ (k : PromptKind) (timeout : Nat) (a : TimeoutAction) (fan d : Nat),
    clampStep (.prompt k timeout a) = .prompt k timeout a ∧ stepClamped (.prompt k timeout a) = false
      ∧ clampStep (.rest fan d) = .rest (if fan = 255 then 0 else min fan 100) d
      ∧ (stepClamped (.rest fan d) = true ↔ fan ≠ 255 ∧ 100 < fan))
  ∧ (∀ w : StepWire,
    (stepOfWire w = none ↔ RecordInvalid w)
      ∧ ∀ x, stepOfWire w = some x → RecordWritten w x ∧ (stepInRange x = false ↔ RecordOutOfRange w))

/-- PROGRAM_CLEAR empties the table unless a run is active (R15); PROGRAM_LOAD makes the checks of R16 in order and copies the
recipe with the slot as origin. -/
def Obligations.ProgramClearAndLoad : Prop :=
  (∀ (p : Port) (s : State), ∃ t, exec (.programClear p) s = .next t ∧
    if runActive s = true then OnlyAnswered p 0x11 .busy [] (heardBy p s) t
    else
      Answered p 0x11 .ok [] (heardBy p s) t ∧ Posted [] (heardBy p s) t ∧ SameExcept [.ports, .prog] (heardBy p s) t
        ∧ t.prog = { steps := [], origin := .none })
    ∧ (∀ (p : Port) (slot : Byte) (s : State), s.store.slots.length = 24 → ∃ t, exec (.programLoad p slot) s = .next t ∧
      if 24 ≤ slot.toNat then OnlyAnswered p 0x12 .range [] (heardBy p s) t
      else if runActive s = true then OnlyAnswered p 0x12 .busy [] (heardBy p s) t
      else if writingSlot s.store slot.toNat = true then OnlyAnswered p 0x12 .storeBusy [] (heardBy p s) t
      else
        match s.store.slots[slot.toNat]? with
        | none => False
        | some .empty => OnlyAnswered p 0x12 .empty [] (heardBy p s) t
        | some .corrupt => OnlyAnswered p 0x12 .corrupt [] (heardBy p s) t
        | some (.valid r) =>
          Answered p 0x12 .ok [] (heardBy p s) t ∧ Posted [] (heardBy p s) t
            ∧ SameExcept [.ports, .prog] (heardBy p s) t
            ∧ t.prog = { steps := r.steps, origin := .slot slot.toNat })

/-- RECIPE_STORE makes the checks of R175 in order and begins a write of the table with the name and category; RECIPE_ERASE makes
the checks of R176 in order and begins a write of the erased marker. -/
def Obligations.RecipeWritesBegin : Prop :=
  (∀ (p : Port) (slot category : Byte) (name : List Byte) (s : State),
    ∃ t, exec (.recipeStore p slot category name) s = .next t ∧
      match categoryOf category with
      | none => OnlyAnswered p 0x50 .range [] (heardBy p s) t
      | some c =>
        if 24 ≤ slot.toNat ∨ name = [] ∨ 16 < name.length ∨ (∃ b ∈ name, b.toNat < 0x20 ∨ 0x7E < b.toNat) then
          OnlyAnswered p 0x50 .range [] (heardBy p s) t
        else if slot.toNat < 8 ∧ p ≠ .service then OnlyAnswered p 0x50 .isProtected [] (heardBy p s) t
        else if s.prog.steps = [] then OnlyAnswered p 0x50 .empty [] (heardBy p s) t
        else if s.store.flight ≠ none then OnlyAnswered p 0x50 .storeBusy [] (heardBy p s) t
        else
          Answered p 0x50 .accepted [] (heardBy p s) t ∧ Posted [] (heardBy p s) t
            ∧ SameExcept [.ports, .store] (heardBy p s) t
            ∧ t.store = { s.store with
                flight := some (.store slot.toNat { name := name, category := c, steps := s.prog.steps } p) })
  ∧ (∀ (p : Port) (slot : Byte) (s : State), ∃ t, exec (.recipeErase p slot) s = .next t ∧
    if 24 ≤ slot.toNat then OnlyAnswered p 0x51 .range [] (heardBy p s) t
    else if slot.toNat < 8 ∧ p ≠ .service then OnlyAnswered p 0x51 .isProtected [] (heardBy p s) t
    else if s.store.flight ≠ none then OnlyAnswered p 0x51 .storeBusy [] (heardBy p s) t
    else
      Answered p 0x51 .accepted [] (heardBy p s) t ∧ Posted [] (heardBy p s) t
        ∧ SameExcept [.ports, .store] (heardBy p s) t
        ∧ t.store = { s.store with flight := some (.erase slot.toNat p) })

/-- The completion of a recipe write (R177) and of a save (R179), and what follows it (R174): the slot's state and the last-
write record, or the save's result, the record and a retry after a failed first save. That the outcome of the check comes with
the event is the model's choice (log entry 15). -/
def Obligations.WritesComplete : Prop :=
  ∀ (pass : Bool) (s : State) (f : Flight), s.store.flight = some f →
    match f with
    | .store n r p => ∃ t, exec (.storeWriteComplete pass) s = .next t ∧ RecipeWritten n p false (.valid r) pass s t
    | .erase n p => ∃ t, exec (.storeWriteComplete pass) s = .next t ∧ RecipeWritten n p true .empty pass s t
    | .save r retry => ∃ t, exec (.saveComplete pass) s = .next t
        ∧ t.store = { s.store with
            saveResult := some pass
            record := if pass then some r else none
            savePending := false
            flight :=
              if pass = false ∧ retry = false then some (.save (liveRecord s) true)
              else if s.store.savePending then some (.save (liveRecord s) false)
              else none }
        ∧ SameExcept [.store] s t

/-! ### Runs -/

/-- START is refused by the first failing check of R25, and a refused START changes nothing but the answer. A START that
passes rewrites the run record and the option set (R26), enters ACTIVE with timer and cooling state absent (R169), clears the
decline mark (R130) and the ramp bases, and enters RUNNING at step 0 with a new frame where the readings are fresh, PREPARING
with no frame otherwise; an after-run drain is kept by a program that steams, and otherwise dropped with the drain-on-end mark
set (R169); then no drain is in progress, unless a STEP drain waited, which only a run asks for (log entry 12). That the FLUSH
fields and the model's own mark of a counted second start clear is the model's reading (log entries 6, 13), and so is the mark
of a decided slot (log entry 7). That the fan is at 0 up to the first slot start of a run begun in RUNNING is the model's
choice (log entry 24; R97 gives it in PREPARING). The new frame has the figures and the fill test of step 0's heating (R86,
R88, R124); that a COOK fill begun there while the tank is not OK keeps the flow count is the model's choice (log entry 19).
-/
def Obligations.StartBeginsTheRun : Prop :=
  (∀ (p : Port) (options : Byte) (s : State), ∃ t, exec (.start p options) s = .next t ∧
    if 16 ≤ options.toNat then OnlyAnswered p 0x20 .range [] (heardBy p s) t
    else if s.faults.hold = true then OnlyAnswered p 0x20 .faultHold [] (heardBy p s) t
    else if runActive s = true then OnlyAnswered p 0x20 .busy [] (heardBy p s) t
    else if s.prog.steps = [] then OnlyAnswered p 0x20 .empty [] (heardBy p s) t
    else if s.pins.doorOpen = true then OnlyAnswered p 0x20 .doorOpen [] (heardBy p s) t
    else if p = .link ∧ s.run.consent = false then OnlyAnswered p 0x20 .consentRequired [] (heardBy p s) t
    else if s.water.rinseOwed = true ∧ (∃ x ∈ s.prog.steps, x.steams = true) then
      OnlyAnswered p 0x20 .rinseRequired [] (heardBy p s) t
    else Answered p 0x20 .ok [] (heardBy p s) t ∧ t.run.kind = .cook ∧ runActive t = true)
  ∧ (∀ (p : Port) (options : Byte) (o : Options) (s : State),
    optionsOf options = some o → s.faults.hold = false → runActive s = false → s.prog.steps ≠ [] → s.pins.doorOpen = false →
    (p = .link → s.run.consent = true) → (s.water.rinseOwed = true → programSteams s = false) →
      let steams : Prop := ∃ x ∈ s.prog.steps, x.steams = true
      let pendingOrOn : Bool := s.water.drainPending || s.water.op.draining?
      let begun : Run := {
        kind := .cook
        state := if (heardBy p s).modes.fresh then .running else .preparing
        phase := .steps
        stepIdx := 0
        stepElapsed := 0
        runElapsed := 0
        held := none
        durOverride := none
        probeDeclined := false
        preheatMark := false
        startedBy := some p
        endCause := none
        flushPart := none
        flushHold := 0
        secondDue := false
        options := o
        consent := s.run.consent }
      let water : Water :=
        if steams then { s.water with declineMark := false }
        else if s.water.op.draining? = true then
          { s.water with declineMark := false, drainPending := false, op := .idle, purpose := .none, attempt := none }
        else { s.water with declineMark := false, drainPending := false }
      let base : State := { heardBy p s with
        run := begun
        sched := Sched.clearBases s.sched
        water := water
        modes := { (heardBy p s).modes with
          mode := .active
          idle := none
          cooling := none
          drainOnEnd := if steams then false else pendingOrOn
          fanOut := 0 } }
      ∃ t, exec (.start p options) s = .next t
        ∧ Answered p 0x20 .ok [] (heardBy p s) t
        ∧ t.run = begun
        ∧ t.modes.mode = .active ∧ t.modes.idle = none ∧ t.modes.cooling = none ∧ t.modes.fanOut = 0
        ∧ t.water.declineMark = false
        ∧ (steams → t.water.drainPending = s.water.drainPending
            ∧ (s.water.op.draining? = true → t.water.op = s.water.op ∧ t.water.purpose = s.water.purpose))
        ∧ (¬ steams → t.water.drainPending = false ∧ t.modes.drainOnEnd = pendingOrOn
            ∧ (s.water.stepDrainWaiting = false → t.water.op.draining? = false))
        ∧ Holds .runChanged t ∧ (s.run.options ≠ o → Holds .optionsChanged t)
        ∧ (s.modes.mode ≠ .active → Holds .modeChanged t)
        ∧ ((heardBy p s).modes.fresh = true → StepEntered 0 none base t)
        ∧ ((heardBy p s).modes.fresh = false →
            t.sched = base.sched ∧ t.prompts = s.prompts ∧ t.demand = s.demand ∧ t.water = water ∧ t.modes = base.modes)
        ∧ SameExcept stepBlocks (heardBy p s) t)

/-- DESCALE_START and RINSE_START make the checks of R142 in order; one that is taken rewrites the record, keeps the options,
enters ACTIVE with the drain-on-end mark clear, takes over an after-run drain and, with fresh readings, enters step 0 (R143).
That the FLUSH fields and the model's own mark of a counted second start clear, and how an after-run drain is taken over, is the
model's reading (log entries 6, 12, 13), and so is the mark of a decided slot (log entry 7). That the fan is at 0 up to the first
slot start of a run begun in RUNNING is its choice (log entry 24; R97 gives it in PREPARING). -/
def Obligations.BuiltinStartsBegin : Prop :=
  ∀ (k : RunKind) (p : Port) (s : State), p ≠ .link → k = .descale ∨ k = .rinse →
    ∃ t, exec (if k = .descale then .descaleStart p else .rinseStart p) s = .next t ∧
      let echo : Byte := if k = .descale then 0x41 else 0x42
      if s.faults.hold = true then OnlyAnswered p echo .faultHold [] (heardBy p s) t
      else if runActive s = true then OnlyAnswered p echo .busy [] (heardBy p s) t
      else if s.pins.doorOpen = true then OnlyAnswered p echo .doorOpen [] (heardBy p s) t
      else if (k = .descale ∧ p = .panel ∧ scaleState s = .clear) ∨ (k = .rinse ∧ s.water.rinseOwed = false) then
        OnlyAnswered p echo .notDue [] (heardBy p s) t
      else
        let begun : Run := {
          kind := k
          state := if (heardBy p s).modes.fresh then .running else .preparing
          phase := .steps
          stepIdx := 0
          stepElapsed := 0
          runElapsed := 0
          held := none
          durOverride := none
          probeDeclined := false
          preheatMark := false
          startedBy := some p
          endCause := none
          flushPart := none
          flushHold := 0
          secondDue := false
          options := s.run.options
          consent := s.run.consent }
        let water : Water := { s.water with
          declineMark := false
          drainPending := false
          purpose := if s.water.op.draining? = true then .step else s.water.purpose }
        let modes : ModeCtl := { (heardBy p s).modes with
          mode := .active, idle := none, cooling := none, drainOnEnd := false, fanOut := 0 }
        let base : State := { heardBy p s with
          run := begun, sched := Sched.clearBases s.sched, water := water, modes := modes }
        Answered p echo .ok [] (heardBy p s) t
          ∧ t.run = begun ∧ t.modes = modes
          ∧ t.water.declineMark = false ∧ t.water.drainPending = false
          ∧ (s.water.op.draining? = true → t.water.op = s.water.op ∧ t.water.purpose = .step)
          ∧ (s.water.op = .idle → (heardBy p s).modes.fresh = true →
              t.water.op.draining? = true ∧ t.water.purpose = .step)
          ∧ Holds .runChanged t ∧ (s.modes.mode ≠ .active → Holds .modeChanged t)
          ∧ ((heardBy p s).modes.fresh = true → StepEntered 0 none base t)
          ∧ ((heardBy p s).modes.fresh = false →
              t.sched = base.sched ∧ t.prompts = s.prompts ∧ t.demand = s.demand ∧ t.water = water)
          ∧ SameExcept stepBlocks (heardBy p s) t

/-- PAUSE takes RUNNING and DOOR_HELD to PAUSED with held-since 0, cuts the loads and stops the fan, and is refused with BUSY
in every other state (R38); a round not yet judged stays so (R11). RESUME makes the checks of R39 in order and returns a
PAUSED run to RUNNING with held-since absent and a new frame, with the figures and the fill test of the heating in force (R86
to R92, R124); the mark of a decided slot is the model's own (log entry 7), and that a COOK fill begun there while the tank is
not OK keeps the flow count is the model's choice (log entry 19). -/
def Obligations.PauseAndResume : Prop :=
  (∀ (p : Port) (s : State), ∃ t, exec (.pause p) s = .next t ∧
    if s.run.state = .running ∨ s.run.state = .doorHeld then
      Answered p 0x21 .ok [] (heardBy p s) t ∧ Posted [.runChanged] (heardBy p s) t
        ∧ t.run = { s.run with state := .paused, held := some 0 }
        ∧ LoadsCut s t ∧ t.modes = { (heardBy p s).modes with fanOut := 0 }
        ∧ t.meas = { (heardBy p s).meas with owed := { s.meas.owed with judgement := false } }
        ∧ SameExcept [.ports, .run, .meas, .demand, .sched, .modes] (heardBy p s) t
    else OnlyAnswered p 0x21 .busy [] (heardBy p s) t)
  ∧ (∀ (p : Port) (s : State), ∃ t, exec (.resume p) s = .next t ∧
    if s.run.state ≠ .paused then OnlyAnswered p 0x22 .busy [] (heardBy p s) t
    else if s.pins.doorOpen = true then OnlyAnswered p 0x22 .doorOpen [] (heardBy p s) t
    else if p = .link ∧ s.run.consent = false then OnlyAnswered p 0x22 .consentRequired [] (heardBy p s) t
    else
      Answered p 0x22 .ok [] (heardBy p s) t ∧ Holds .runChanged t
        ∧ t.run = { s.run with state := .running, held := none }
        ∧ FrameBegun s t
        ∧ SameExcept stepBlocks (heardBy p s) t)

/-- STOP ends an active run, STOPPED or in KEEP_WARM COMPLETED, with the effects of every run end (R42), and is refused with
STALE otherwise (R41). SKIP makes the checks of R45 in order and, taken, advances the run. The marks of a counted second and
of a decided slot are the model's own (log entries 6, 7), and so is its reading that a run end clears the FLUSH part (log
entry 13) and tests CAV with any calibration change since the round (log entry 18), and that KEEP_WARM is entered with the
open prompts kept (log entry 9). The frame that a taken SKIP begins has the figures and the fill test of the heating then in
force (R86 to R92, R124); that a COOK fill begun there while the tank is not OK keeps the flow count is the model's choice
(log entry 19). -/
def Obligations.StopAndSkipMoveTheRun : Prop :=
  (∀ (p : Port) (s : State), ∃ t, exec (.stop p) s = .next t ∧
    if runActive s = true then
      Answered p 0x23 .ok [] (heardBy p s) t
        ∧ RunEnded (if s.run.phase = .keepWarm then .completed else .stopped) false (heardBy p s) t
    else OnlyAnswered p 0x23 .stale [] (heardBy p s) t)
  ∧ (∀ (p : Port) (index : Byte) (s : State), ∃ t, exec (.skip p index) s = .next t ∧
    if cookActive s = false ∨ s.run.phase ≠ .steps ∨ index.toNat ≠ s.run.stepIdx then
      OnlyAnswered p 0x25 .stale [] (heardBy p s) t
    else if s.run.state = .preparing then OnlyAnswered p 0x25 .busy [] (heardBy p s) t
    else Answered p 0x25 .ok [] (heardBy p s) t ∧ Advanced (heardBy p s) t)

/-- ADJUST makes the checks of R43 in order. One that is taken edits one field of the record at its index, brought into range,
with the origin EDITED; on the current step it restarts the frame, and a DURATION also governs a present override (R44). The
second part gives which fields a record carries, the edited record and when the edit counts as clamped (R4 to R6, R43, R44).
That the comparison with an adjusted duration waits for the next counted second, and the marks of that second and of a decided
slot, are the model's own (log entries 6, 7). The frame begun has the figures and the fill test of the edited step (R87, R88,
R124); that a COOK fill begun there while the tank is not OK keeps the flow count is the model's choice (log entry 19). -/
def Obligations.AdjustEdits : Prop :=
  (∀ (p : Port) (index field : Byte) (value : Half) (s : State), ∃ t, exec (.adjust p index field value) s = .next t ∧
    if cookActive s = false ∨ s.run.phase ≠ .steps ∨ index.toNat < s.run.stepIdx then
      OnlyAnswered p 0x24 .stale [] (heardBy p s) t
    else
      match s.prog.steps[index.toNat]? with
      | none => OnlyAnswered p 0x24 .index [] (heardBy p s) t
      | some x =>
        match adjustFieldOf field with
        | none => OnlyAnswered p 0x24 .invalidStep [] (heardBy p s) t
        | some f =>
          if carries x f = false then OnlyAnswered p 0x24 .invalidStep [] (heardBy p s) t
          else if f = .duration ∧ (value.toNat = 0 ∨ 43200 < value.toNat) then OnlyAnswered p 0x24 .range [] (heardBy p s) t
          else if f = .steam ∧ s.water.rinseOwed = true ∧ x.steams = false ∧ 0 < value.toNat % 256 then
            OnlyAnswered p 0x24 .rinseRequired [] (heardBy p s) t
          else
            Answered p 0x24 (if adjustClamped f value x then .clamped else .ok) [] (heardBy p s) t
              ∧ t.prog = { steps := s.prog.steps.set index.toNat (adjustStep f value x), origin := .edited }
              ∧ (index.toNat ≠ s.run.stepIdx →
                  Posted [] (heardBy p s) t ∧ SameExcept [.ports, .prog] (heardBy p s) t)
              ∧ (index.toNat = s.run.stepIdx →
                  t.run = (if f = .duration then
                      { s.run with durOverride := s.run.durOverride.map fun _ => value.toNat, secondDue := false }
                    else s.run)
                  ∧ Restarted s t ∧ SameExcept (.prog :: stepBlocks) (heardBy p s) t))
  ∧ (∀ (f : AdjustField) (value : Half) (h : Heat) (d : Option Nat) (g : List Guard) (k : PromptKind) (a : TimeoutAction)
      (fan n : Nat),
    let low := value.toNat % 256
    let steam : Nat :=
      match h.mode with
      | .combi => max 10 (min low 90)
      | .steam => 100
      | .convect | .topBottom | .bottom | .grill | .grillFan => 0
    let setpoint : Int := max 300 (min value.toInt (if h.mode = .steam then 1000 else 2500))
    let heat : Heat := {
      mode := h.mode
      setpoint := if f = .setpoint then setpoint else h.setpoint
      steam := if f = .steam then steam else h.steam
      fan := if f = .fan then (if low = 255 then (shareRow h.mode).fan else min low 100) else h.fan }
    let clamped : Prop :=
      (f = .setpoint ∧ setpoint ≠ value.toInt) ∨ (f = .steam ∧ steam ≠ low) ∨ (f = .fan ∧ low ≠ 255 ∧ 100 < low)
    (carries (.preheat h) f = decide (f ≠ .duration) ∧ carries (.cook h d g) f = true ∧ carries (.prompt k n a) f = false
        ∧ carries (.rest fan n) f = decide (f = .fan ∨ f = .duration))
      ∧ adjustStep f value (.preheat h) = .preheat heat
      ∧ adjustStep f value (.cook h d g) = .cook heat (if f = .duration then some value.toNat else d) g
      ∧ adjustStep f value (.rest fan n) =
          .rest (if f = .fan then (if low = 255 then 0 else min low 100) else fan) (if f = .duration then value.toNat else n)
      ∧ (adjustClamped f value (.preheat h) = true ↔ clamped) ∧ (adjustClamped f value (.cook h d g) = true ↔ clamped)
      ∧ (adjustClamped f value (.rest fan n) = true ↔ f = .fan ∧ low ≠ 255 ∧ 100 < low))

/-- OPT_SET, OPT_CLEAR and OPT_TOGGLE change the named options, answer with the resulting set and post OPTIONS_CHANGED; a byte
with a high bit, or naming no option, is refused with RANGE (R46, R192). CONSENT_ARM from the panel arms remote consent with the
door closed and is refused with DOOR_OPEN otherwise; CONSENT_DROP clears it (R22). -/
def Obligations.OptionsAndConsent : Prop :=
  (∀ (op : Fin 3) (p : Port) (options : Byte) (s : State),
    let c : Instr := match op with | 0 => .optSet p options | 1 => .optClear p options | 2 => .optToggle p options
    let echo : Byte := match op with | 0 => 0x26 | 1 => 0x27 | 2 => 0x28
    let change : Bool → Bool → Bool := fun old named =>
      match op with | 0 => old || named | 1 => old && !named | 2 => xor old named
    ∃ t, exec c s = .next t ∧
      if 16 ≤ options.toNat ∨ options = 0 then OnlyAnswered p echo .range [] (heardBy p s) t
      else
        t.run = { s.run with options := {
              light := change s.run.options.light (options.getLsbD 0)
              keepWarm := change s.run.options.keepWarm (options.getLsbD 1)
              fastPreheat := change s.run.options.fastPreheat (options.getLsbD 2)
              eco := change s.run.options.eco (options.getLsbD 3) } }
          ∧ Answered p echo .ok [optionsByte t.run.options] (heardBy p s) t
          ∧ Posted [.optionsChanged] (heardBy p s) t ∧ SameExcept [.ports, .run] (heardBy p s) t)
  ∧ (∀ s : State,
    (∃ t, exec (.consentArm .panel) s = .next t ∧
      if s.pins.doorOpen = true then OnlyAnswered .panel 0x30 .doorOpen [] (heardBy .panel s) t
      else
        Answered .panel 0x30 .ok [] (heardBy .panel s) t ∧ Posted [] (heardBy .panel s) t
          ∧ t.run = { s.run with consent := true } ∧ SameExcept [.ports, .run] (heardBy .panel s) t)
      ∧ ∃ t, exec (.consentDrop .panel) s = .next t
        ∧ Answered .panel 0x31 .ok [] (heardBy .panel s) t ∧ Posted [] (heardBy .panel s) t
        ∧ t.run = { s.run with consent := false } ∧ SameExcept [.ports, .run] (heardBy .panel s) t)

/-! ### Prompts and water steps -/

/-- ANSWER is refused by the first failing check of R53. A CONFIRM of a step prompt, from a port that may give it, ends the
PROMPT step and the run advances, at the last step too; so does a DECLINE of ADD_FOOD, TURN_FOOD or RINSE_TANK; an EXTEND of
CHECK_DONENESS above a COOK step returns to it with an override of 300 s (R60, R61). A CONFIRM of REFILL_TANK begins the
attempt on an OK tank and the 30 s wait otherwise (R62, R129); a DECLINE refuses steam for the rest of the run, with the gate
closed on a steaming frame, and ends a built-in run whose FILL it was (R62, R130, R146). A refusal of a STEP fill with steam
ADMITTED, which SteamOnlyInCook excludes, is left out. The marks of a counted second and of a decided slot are the model's own
(log entries 6, 7), and so is its reading that a run end clears the FLUSH part (log entry 13) and tests CAV with any
calibration change since the round (log entry 18), that KEEP_WARM is entered with the open prompts kept (log entry 9), and
that a fill begun by the entered step while the tank is not OK, a FLUSH step's past RINSE_TANK or a COOK fill of the new
frame, keeps the flow count (log entry 19). The new frame has the figures of the heating then in force (R88). -/
def Obligations.AnswersMoveTheRun : Prop :=
  (∀ (p : Port) (id ans : Byte) (s : State),
    ((∀ q ∈ s.prompts.list, q.id ≠ id.toNat) →
      ∃ t, exec (.answer p id ans) s = .next t ∧ OnlyAnswered p 0x29 .stale [] (heardBy p s) t)
    ∧ ∀ q, s.prompts.list.find? (fun r => r.id = id.toNat) = some q →
      (q.kind ≠ .checkDoneness → p = .link →
        ∃ t, exec (.answer p id ans) s = .next t ∧ OnlyAnswered p 0x29 .notPermitted [] (heardBy p s) t)
      ∧ ((q.kind = .checkDoneness ∨ p ≠ .link) →
          (∀ a, answerOf ans = some a →
            a ≠ .confirm ∧ (a = .decline ↔ q.kind = .checkDoneness) ∨ a = .extend ∧ extendPossible s = false) →
          ∃ t, exec (.answer p id ans) s = .next t ∧ OnlyAnswered p 0x29 .invalidAnswer [] (heardBy p s) t))
  ∧ (∀ (p : Port) (id ans : Byte) (s : State) (q : Prompt), s.prompts.list.find? (fun r => r.id = id.toNat) = some q →
    q.source = .step → q.kind = .addFood ∨ q.kind = .turnFood ∨ q.kind = .checkDoneness ∨ q.kind = .rinseTank →
    (p = .link → q.kind = .checkDoneness) → s.run.state.inStep = true → s.run.phase = .steps →
      let by_ : AnsweredBy := match p with | .panel => .panel | .link => .link | .service => .service
      (ans = 1 →
        ∃ t, exec (.answer p id ans) s = .next t
          ∧ Answered p 0x29 .ok [] (heardBy p s) t ∧ Holds .promptClosed t
          ∧ Advanced (promptGone q .confirm by_ (heardBy p s)) t)
      ∧ (ans = 2 → q.kind ≠ .checkDoneness →
        ∃ t, exec (.answer p id ans) s = .next t
          ∧ Answered p 0x29 .ok [] (heardBy p s) t ∧ Holds .promptClosed t
          ∧ Advanced (promptGone q .decline by_ (heardBy p s)) t)
      ∧ (ans = 3 → q.kind = .checkDoneness → 1 ≤ s.run.stepIdx →
        ∀ h d g, s.prog.steps[s.run.stepIdx - 1]? = some (.cook h d g) →
        ∃ t, exec (.answer p id ans) s = .next t
          ∧ Answered p 0x29 .ok [] (heardBy p s) t ∧ Holds .promptClosed t
          ∧ StepEntered (s.run.stepIdx - 1) (some 300) (promptGone q .extend by_ (heardBy p s)) t))
  ∧ (∀ (p : Port) (id ans : Byte) (s : State) (q : Prompt), s.prompts.list.find? (fun r => r.id = id.toNat) = some q →
    q.source = .water → q.kind = .refillTank → p ≠ .link → s.water.op.waitingTank = true →
      let by_ : AnsweredBy := if p = .panel then .panel else .service
      (ans = 1 → ∃ t, exec (.answer p id ans) s = .next t
        ∧ Answered p 0x29 .ok [] (heardBy p s) t ∧ Posted [.promptClosed] (heardBy p s) t
        ∧ t.prompts = (promptGone q .confirm by_ s).prompts
        ∧ t.water = (if tankOk s = true then
            { s.water with op := if s.pins.boilerLevel = .wet then .verifying else .filling, flow := 0 }
          else { s.water with op := .waitTank true })
        ∧ SameExcept [.ports, .prompts, .water] (heardBy p s) t)
      ∧ (ans = 2 → s.water.drainPending = false → s.water.stepDrainWaiting = false →
        let refused := opIdle (promptGone q .decline by_ { heardBy p s with
          water := { s.water with declineMark := true } })
        ∃ t, exec (.answer p id ans) s = .next t
          ∧ Answered p 0x29 .ok [] (heardBy p s) t ∧ Holds .promptClosed t ∧ Holds .steamWithheld t
          ∧ (s.water.declineMark = false → Holds .waterChanged t)
          ∧ (s.water.purpose = .step → s.run.state.inStep = true → s.demand.steam ≠ .admitted →
              RunEnded .declined false refused t)
          ∧ (s.water.purpose ≠ .step →
              t.water = refused.water ∧ t.prompts = refused.prompts
                ∧ (if s.run.state = .running ∧ s.sched.frameRunning = true ∧ s.demand.steam = .admitted
                      ∧ s.water.declineMark = false then
                    SteamWithdrawn s t
                  else t.sched = s.sched ∧ t.demand = s.demand)
                ∧ SameExcept [.ports, .prompts, .water, .sched, .demand] (heardBy p s) t)))

/-- A taken ANSWER of INSERT_PROBE closes the prompt with the answer and the port (R55): it leaves the list, heads the history,
and PROMPT_CLOSED is posted; a DECLINE sets the probe-declined flag, a CONFIRM leaves the run as it was (R34). A change of
presence to PRESENT, taken once, closes it CONFIRM by SENSOR (R56, R78). That the change is taken in a row of its own is the
model's choice (log entry 10). -/
def Obligations.ProbePromptCloses : Prop :=
  (∀ (p : Port) (id ans : Byte) (s : State) (q : Prompt), s.prompts.list.find? (fun r => r.id = id.toNat) = some q →
    q.kind = .insertProbe → q.source = .probe → p ≠ .link → ans = 1 ∨ ans = 2 → s.run.state.inStep = true →
      ∃ t, exec (.answer p id ans) s = .next t
        ∧ Answered p 0x29 .ok [] (heardBy p s) t ∧ Posted [.promptClosed] (heardBy p s) t
        ∧ t.prompts = {
            list := s.prompts.list.filter fun r => r.id ≠ q.id
            history := ({ id := q.id, kind := .insertProbe, outcome := if ans = 1 then .confirm else .decline,
                          by_ := if p = .panel then .panel else .service } :: s.prompts.history).take 4
            nextId := s.prompts.nextId }
        ∧ t.run = { s.run with probeDeclined := if ans = 2 then true else s.run.probeDeclined }
        ∧ SameExcept [.ports, .prompts, .run] (heardBy p s) t)
  ∧ (∀ s : State, s.meas.owed.closure = true →
    ∀ q, s.prompts.list.find? (fun r => r.kind = .insertProbe) = some q → q.source = .probe →
      ∃ t, exec .probeSensorClosure s = .next t
        ∧ OnlyPosted [.promptClosed] s t
        ∧ t.prompts.list = s.prompts.list.filter (fun r => r.id ≠ q.id)
        ∧ t.prompts.history = ({ id := q.id, kind := q.kind, outcome := .confirm, by_ := .sensor } ::
            s.prompts.history).take 4
        ∧ t.meas = { s.meas with owed := { s.meas.owed with closure := false } }
        ∧ SameExcept [.ports, .prompts, .meas] s t)

/-- A prompt's countdown falls by 1 in RUNNING, DOOR_HELD and PAUSED, and only there; at 0 the prompt closes TIMEOUT (R57). A
step prompt with a timeout of its own advances the run or ends it PROMPT_TIMEOUT by its action, and one whose hold limit is
reached ends it; INSERT_PROBE goes on or ends the run by its action (R34); REFILL_TANK refuses steam for the rest of the run,
with the gate closed on a steaming frame (R94, R111), and ends a built-in run whose FILL it was (R62, R130, R146); that such a
run's steam is not ADMITTED is SteamOnlyInCook. That a hold limit ends the run also in KEEP_WARM, which is entered with the
open prompts kept, is the model's reading (log entry 9), and so is that a run end clears the FLUSH part (log entry 13) and
tests CAV with any calibration change since the round (log entry 18); the marks of a counted second and of a decided slot are
its own (log entries 6, 7). The frame of an entered step has the figures and the fill test of its heating (R86 to R92, R124);
that a COOK fill begun there while the tank is not OK keeps the flow count is the model's choice (log entry 19). -/
def Obligations.PromptsTimeOut : Prop :=
  (∀ (id : Nat) (s : State), ∃ t, exec (.promptCountdown id) s = .next t ∧ SameExcept [.prompts] s t
    ∧ t.prompts = { s.prompts with
        list :=
          if s.run.state.inStep = true then
            s.prompts.list.map fun q => if q.id = id then { q with remaining := q.remaining - 1 } else q
          else s.prompts.list })
    ∧ (∀ (id : Nat) (s : State) (q : Prompt),
        s.prompts.list.find? (fun r => r.id = id && r.remaining = 0) = some q → s.run.state.inStep = true →
        s.modes.mode ≠ .standby →
        let gone := promptGone q .timeout .nobody s
        (q.source = .probe → q.kind = .insertProbe → q.timeout = 600 → q.action = .goOn →
          ∃ t, exec (.promptTimeout id) s = .next t
            ∧ OnlyPosted [.promptClosed] s t
            ∧ t.prompts.list = s.prompts.list.filter (fun r => r.id ≠ q.id)
            ∧ t.prompts.history = ({ id := q.id, kind := .insertProbe, outcome := .timeout, by_ := .nobody } ::
                s.prompts.history).take 4
            ∧ SameExcept [.ports, .prompts] s t)
        ∧ (q.source = .probe → q.kind = .insertProbe → q.timeout = 600 → q.action = .endRun →
          ∃ t, exec (.promptTimeout id) s = .next t ∧ Holds .promptClosed t ∧ RunEnded .promptTimeout false gone t)
        ∧ (q.source = .step → q.kind ≠ .refillTank → q.timeout = 0 ∨ q.timeout = 3600 →
          ∃ t, exec (.promptTimeout id) s = .next t ∧ Holds .promptClosed t ∧ RunEnded .promptTimeout false gone t)
        ∧ (q.source = .step → q.kind ≠ .refillTank → 10 ≤ q.timeout → q.timeout ≤ 3599 → s.run.phase = .steps →
          ∃ t, exec (.promptTimeout id) s = .next t ∧ Holds .promptClosed t
            ∧ (q.action = .goOn → Advanced gone t)
            ∧ (q.action = .endRun → RunEnded .promptTimeout false gone t))
        ∧ (q.source = .water → q.kind = .refillTank → s.water.op.waitingTank = true → s.water.drainPending = false →
            s.water.stepDrainWaiting = false →
          let refused := opIdle { gone with water := { s.water with declineMark := true } }
          ∃ t, exec (.promptTimeout id) s = .next t ∧ Holds .promptClosed t ∧ Holds .steamWithheld t
            ∧ (s.water.declineMark = false → Holds .waterChanged t)
            ∧ (s.water.purpose = .step → s.demand.steam ≠ .admitted → RunEnded .promptTimeout false refused t)
            ∧ (s.water.purpose ≠ .step → t.water = refused.water ∧ t.prompts = refused.prompts
                ∧ (if s.run.state = .running ∧ s.sched.frameRunning = true ∧ s.demand.steam = .admitted
                      ∧ s.water.declineMark = false then
                    SteamWithdrawn s t
                  else t.sched = s.sched ∧ t.demand = s.demand)
                ∧ SameExcept [.ports, .prompts, .water, .sched, .demand] s t)))

/-- The water steps of the built-in programs, in RUNNING, DOOR_HELD and PAUSED (R144 to R147, R152, R153): a STEP fill
that succeeds ends a FILL step or begins the FLUSH hold, a STEP drain that succeeds ends a DRAIN step or a FLUSH step, and
the last of them completes the descale or the rinse; WATER_CHANGED is posted by a rinse, and by a descale whose scale
state, under a limit in its range, or rinse-owed flag changes (R152, R153). POUR_AGENT confirmed sets rinse-owed and asks
for a save before the run advances, and declined ends the run DECLINED (R149, R150). That no after-run drain is pending in
such a run is part of WaterInRange, and that no steam is ADMITTED in it is SteamOnlyInCook. How a STEP drain waits and
ends is the model's reading where the rules are silent (log entry 12), and that an entered FILL or FLUSH step whose fill
waits for the tank keeps the flow count is its choice (log entry 19); so is that a run end clears the FLUSH part (log
entry 13) and tests CAV with any calibration change since the round (log entry 18); the marks of a counted second and of a
decided slot are its own (log entries 6, 7). -/
def Obligations.WaterStepsMoveTheRun : Prop :=
  (∀ s : State, s.run.state.inStep = true → s.run.phase = .steps → s.modes.mode ≠ .standby → s.water.purpose = .step →
    s.water.drainPending = false → s.water.stepDrainWaiting = false →
    (s.water.op = .verifying → s.pins.boilerLevel = .wet →
      let filled := opIdle { s with water := { s.water with lastFill := some (s.water.flow / 2) } }
      ((builtinProgram s.run.kind)[s.run.stepIdx]? = some .fill →
        ∃ t, exec .verifyEnd s = .next t ∧ t.water.lastFill = some (s.water.flow / 2)
          ∧ StepEntered (s.run.stepIdx + 1) none filled t)
      ∧ ((builtinProgram s.run.kind)[s.run.stepIdx]? = some .flush →
        ∃ t, exec .verifyEnd s = .next t ∧ t.water = filled.water
          ∧ t.run = { s.run with flushPart := some .hold, flushHold := 0 } ∧ SameExcept [.run, .water] s t))
    ∧ ((s.water.op = .draining false ∨ s.water.op = .draining true) → s.pins.boilerLevel = .dry →
        (builtinProgram s.run.kind)[s.run.stepIdx]? = some .drain
          ∨ ((builtinProgram s.run.kind)[s.run.stepIdx]? = some .flush ∧ s.run.flushPart = some .drain) →
      ∃ t, exec .drainPassEnd s = .next t
        ∧ (if s.run.stepIdx + 1 < (builtinProgram s.run.kind).length then
            StepEntered (s.run.stepIdx + 1) none (opIdle s) t
          else
            (s.run.kind = .descale → RunEnded .completed true (descaleDone (opIdle s)) t
              ∧ t.water.account = 0 ∧ t.water.remainder = 0
              ∧ t.water.descaleCount = min (s.water.descaleCount + 1) 65535 ∧ t.water.rinseOwed = false
              ∧ (5000 ≤ s.water.scaleLimit → s.water.rinseOwed = true ∨ scaleState s ≠ .clear → Holds .waterChanged t))
            ∧ (s.run.kind = .rinse → RunEnded .completed true (rinseDone (opIdle s)) t
              ∧ t.water.account = s.water.account ∧ t.water.remainder = s.water.remainder
              ∧ t.water.descaleCount = s.water.descaleCount ∧ t.water.rinseOwed = false ∧ Holds .waterChanged t))))
  ∧ (∀ (p : Port) (id ans : Byte) (s : State) (q : Prompt), s.prompts.list.find? (fun r => r.id = id.toNat) = some q →
    q.source = .step → q.kind = .pourAgent → p ≠ .link → s.run.state.inStep = true → s.run.phase = .steps →
    s.run.kind = .descale → s.run.stepIdx = 1 → s.demand.steam ≠ .admitted →
      let by_ : AnsweredBy := if p = .panel then .panel else .service
      let owed : State := { heardBy p s with water := { s.water with rinseOwed := true } }
      (ans = 1 → ∃ t, exec (.answer p id ans) s = .next t
        ∧ Answered p 0x29 .ok [] (heardBy p s) t ∧ Holds .promptClosed t ∧ t.water.rinseOwed = true
        ∧ (s.water.rinseOwed = false → Holds .waterChanged t)
        ∧ SaveRequested (heardBy p s) t ∧ StepEnteredAlso [.store] 2 none (promptGone q .confirm by_ owed) t)
      ∧ (ans = 2 → ∃ t, exec (.answer p id ans) s = .next t
        ∧ Answered p 0x29 .ok [] (heardBy p s) t ∧ Holds .promptClosed t ∧ t.water.rinseOwed = s.water.rinseOwed
        ∧ RunEnded .declined false (promptGone q .decline by_ (heardBy p s)) t))

/-! ### Settings -/

/-- SET_HARDNESS, SET_SCALE_LIMIT and SET_FILL_RETRIES (R137): the ports, the ranges, the setting changed and a save
requested. A limit that leaves the scale state posts nothing; one that makes it BLOCK in a steaming frame withdraws the
BOILER slots and switches the entry off at once, gives the frame the condition WITHHELD and posts STEAM_WITHHELD under the
mark (R94, R111, R135). -/
def Obligations.WaterSettingsAreSet : Prop :=
  (∀ (p : Port) (h : Half) (s : State), ∃ t, exec (.setHardness p h) s = .next t ∧
    if p = .link then OnlyAnswered p 0x43 .notPermitted [] (heardBy p s) t
    else if 500 < h.toNat ∨ h.toNat % 10 ≠ 0 then OnlyAnswered p 0x43 .range [] (heardBy p s) t
    else
      Answered p 0x43 .ok [] (heardBy p s) t ∧ Posted [] (heardBy p s) t
        ∧ t.water = { s.water with hardness := h.toNat } ∧ SaveRequested (heardBy p s) t
        ∧ SameExcept [.ports, .water, .store] (heardBy p s) t)
    ∧ (∀ (p : Port) (mg : Half) (s : State), ∃ t, exec (.setScaleLimit p mg) s = .next t ∧
      if p ≠ .service then OnlyAnswered p 0x64 .notPermitted [] (heardBy p s) t
      else if mg.toNat < 5000 ∨ 40000 < mg.toNat then OnlyAnswered p 0x64 .range [] (heardBy p s) t
      else
        Answered p 0x64 .ok [] (heardBy p s) t ∧ t.water = { s.water with scaleLimit := mg.toNat }
          ∧ SaveRequested (heardBy p s) t
          ∧ (scaleStateOf s.water.account mg.toNat ≠ scaleState s → Holds .waterChanged t)
          ∧ (scaleStateOf s.water.account mg.toNat = scaleState s →
              Posted [] (heardBy p s) t ∧ SameExcept [.ports, .water, .store] (heardBy p s) t)
          ∧ SameExcept [.ports, .water, .store, .demand, .sched] (heardBy p s) t)
    ∧ (∀ (mg : Half) (s : State), s.run.state = .running → s.sched.frameRunning = true → s.demand.steam = .admitted →
      s.modes.mode = .active → scaleState s ≠ .block → 5000 ≤ mg.toNat → mg.toNat ≤ 40000 → mg.toNat ≤ s.water.account →
        ∃ t, exec (.setScaleLimit .service mg) s = .next t ∧ SteamWithdrawn s t
          ∧ Posted (if s.demand.reported then [.waterChanged] else [.waterChanged, .steamWithheld]) s t)
    ∧ (∀ (p : Port) (n : Byte) (s : State), ∃ t, exec (.setFillRetries p n) s = .next t ∧
      if p ≠ .service then OnlyAnswered p 0x65 .notPermitted [] (heardBy p s) t
      else if 5 < n.toNat then OnlyAnswered p 0x65 .range [] (heardBy p s) t
      else
        Answered p 0x65 .ok [] (heardBy p s) t ∧ Posted [] (heardBy p s) t
          ∧ t.water = { s.water with retries := n.toNat } ∧ SaveRequested (heardBy p s) t
          ∧ SameExcept [.ports, .water, .store] (heardBy p s) t)

/-- SCALE_SET (R138): account and saved mg take the value, the remainder becomes 0, a save is requested, and a change of scale
state posts WATER_CHANGED. A scale state that becomes BLOCK during a steaming frame withdraws the BOILER slots and switches the
entry off, gives the frame the condition WITHHELD and posts STEAM_WITHHELD under the mark; the other entries are untouched (R94,
R111, R135). The last part gives the scale state of an account under a limit. -/
def Obligations.ScaleIsSet : Prop :=
  (∀ (p : Port) (mg : Half) (s : State), ∃ t, exec (.scaleSet p mg) s = .next t ∧
    if p ≠ .service then OnlyAnswered p 0x63 .notPermitted [] (heardBy p s) t
    else
      Answered p 0x63 .ok [] (heardBy p s) t
        ∧ t.water = { s.water with account := mg.toNat, remainder := 0, savedMg := mg.toNat }
        ∧ SaveRequested (heardBy p s) t
        ∧ (scaleStateOf mg.toNat s.water.scaleLimit ≠ scaleState s → Holds .waterChanged t)
        ∧ (scaleStateOf mg.toNat s.water.scaleLimit = scaleState s → Posted [] (heardBy p s) t)
        ∧ SameExcept [.ports, .water, .store, .demand, .sched] (heardBy p s) t)
  ∧ (∀ (mg : Half) (s : State), s.run.state = .running → s.sched.frameRunning = true → s.demand.steam = .admitted →
    s.modes.mode = .active → scaleState s ≠ .block → s.water.scaleLimit ≤ mg.toNat →
      ∃ t, exec (.scaleSet .service mg) s = .next t ∧ SteamWithdrawn s t
        ∧ Posted (if s.demand.reported then [.waterChanged] else [.waterChanged, .steamWithheld]) s t)
  ∧ (∀ account limit : Nat,
    scaleStateOf account limit =
      if limit ≤ account then .block else if limit * 80 / 100 ≤ account then .warn else .clear)

/-- SET_BUDGET and SET_SUPPLY refuse with RANGE exactly what R116 and R117 list, and otherwise store their values and request a
save. -/
def Obligations.SupplySettingsAreSet : Prop :=
  (∀ (p : Port) (mode : Byte) (floor : Half) (manual : Option Half) (s : State),
    ∃ t, exec (.setBudget p mode floor manual) s = .next t ∧
      if p = .link then OnlyAnswered p 0x44 .notPermitted [] (heardBy p s) t
      else if (mode ≠ 1 ∧ mode ≠ 2) ∨ floor.toNat < 800 ∨ 3600 < floor.toNat ∨ s.sched.limit < floor.toNat
          ∨ (∃ v ∈ manual, v.toNat < 800 ∨ 7400 < v.toNat ∨ s.sched.limit < v.toNat)
          ∨ (mode = 2 ∧ manual = none ∧ s.sched.manual = none) then
        OnlyAnswered p 0x44 .range [] (heardBy p s) t
      else
        Answered p 0x44 .ok [] (heardBy p s) t ∧ Posted [] (heardBy p s) t
          ∧ t.sched = { s.sched with
              mode := if mode = 1 then .adaptive else .manual
              floor := floor.toNat
              manual := if manual = none then s.sched.manual else manual.map (·.toNat) }
          ∧ SaveRequested (heardBy p s) t ∧ SameExcept [.ports, .sched, .store] (heardBy p s) t)
    ∧ (∀ (p : Port) (limit : Half) (volts scan : Byte) (s : State), ∃ t, exec (.setSupply p limit volts scan) s = .next t ∧
      if p ≠ .service then OnlyAnswered p 0x61 .notPermitted [] (heardBy p s) t
      else if limit.toNat < 1000 ∨ 7400 < limit.toNat ∨ limit.toNat < s.sched.floor
          ∨ (∃ v ∈ s.sched.manual, limit.toNat < v) ∨ volts.toNat < 200 ∨ 250 < volts.toNat ∨ (scan ≠ 0 ∧ scan ≠ 1) then
        OnlyAnswered p 0x61 .range [] (heardBy p s) t
      else
        Answered p 0x61 .ok [] (heardBy p s) t ∧ Posted [] (heardBy p s) t
          ∧ t.sched = { s.sched with limit := limit.toNat, volts := volts.toNat, scan := scan = 1 }
          ∧ SaveRequested (heardBy p s) t ∧ SameExcept [.ports, .sched, .store] (heardBy p s) t)

/-- ELEMENT_CONFIG stores the three fields of one entry and requests a save; a disable switches an entry that is on off at
once, giving the slot in progress back and taking the rating with which the slot began off current slot watts (R118). An
entry that is not one of the five positions is refused with RANGE, and so are the other values out of range. With no slot
begun in the frame there is none to give back (log entry 7). -/
def Obligations.ElementIsConfigured : Prop :=
  (∀ (entry : Byte) (ratedW : Half) (enabled rampStep : Byte) (s : State), 4 < entry.toNat →
    ∃ t, exec (.elementConfig .service entry ratedW enabled rampStep) s = .next t
      ∧ OnlyAnswered .service 0x60 .range [] (heardBy .service s) t)
  ∧ (∀ entry : Byte, loadOf entry = loadsInOrder[entry.toNat]?)
  ∧ ∀ (l : Load) (entry : Byte) (ratedW : Half) (enabled rampStep : Byte) (s : State), loadOf entry = some l →
    ∃ t, exec (.elementConfig .service entry ratedW enabled rampStep) s = .next t ∧
      let e := s.sched.entries.get l
      let set : Entry := { e with ratedW := ratedW.toNat, enabled := enabled = 1, rampStep := rampStep.toNat }
      if ratedW.toNat < 100 ∨ 3500 < ratedW.toNat ∨ 1 < enabled.toNat ∨ 40 < rampStep.toNat then
        OnlyAnswered .service 0x60 .range [] (heardBy .service s) t
      else
        Answered .service 0x60 .ok [] (heardBy .service s) t ∧ Posted [] (heardBy .service s) t
          ∧ SaveRequested (heardBy .service s) t ∧ SameExcept [.ports, .sched, .store] (heardBy .service s) t
          ∧ (∀ m, m ≠ l → t.sched.entries.get m = s.sched.entries.get m)
          ∧ (enabled = 1 ∨ e.on = false → t.sched.entries.get l = set ∧ t.sched.curW = s.sched.curW)
          ∧ (enabled = 0 → e.on = true → s.sched.slotStarted = true →
              t.sched.entries.get l =
                  { set with on := false, remaining := e.remaining + 1, granted := e.granted - 1 }
                ∧ t.sched.curW = s.sched.curW - e.slotRated)
          ∧ (enabled = 0 → e.on = true → s.sched.slotStarted = false →
              t.sched.entries.get l = { set with on := false } ∧ t.sched.curW = s.sched.curW - e.slotRated)
          ∧ t.sched = { s.sched with entries := t.sched.entries, curW := t.sched.curW }

/-- SET_CAL replaces one channel's offset, recomputes its published value from the unchanged window and requests a save; an
offset outside -50 to 50 and an unknown channel are refused with RANGE (R73, R76). -/
def Obligations.CalibrationIsSet : Prop :=
  ∀ (channel offset : Byte) (s : State), ∃ t, exec (.setCal .service channel offset) s = .next t ∧
    match channelOf channel with
    | none => OnlyAnswered .service 0x62 .range [] (heardBy .service s) t
    | some c =>
      if offset.toInt < -50 ∨ 50 < offset.toInt then OnlyAnswered .service 0x62 .range [] (heardBy .service s) t
      else
        Answered .service 0x62 .ok [] (heardBy .service s) t ∧ Posted [] (heardBy .service s) t
          ∧ SaveRequested (heardBy .service s) t ∧ SameExcept [.ports, .meas, .store] (heardBy .service s) t
          ∧ (∀ d, t.meas.channels.get d =
              if d = c then { s.meas.channels.get d with offset := offset.toInt } else s.meas.channels.get d)
          ∧ t.meas = { (heardBy .service s).meas with channels := t.meas.channels }
          ∧ (∀ d, d ≠ c → published t d = published s d)
          ∧ (∀ v, published s c = some v →
              published t c = some (v - (s.meas.channels.get c).offset + offset.toInt))

/-! ### The port unit, the modes and the resets -/

/-- A command from a port the access table leaves out is answered NOT_PERMITTED, has woken the part (STANDBY apart), and
does nothing else (R185, R167). A frame that fails the form checks is answered LENGTH or UNKNOWN_COMMAND with byte 0 as
echo, wakes nothing and does nothing else (R184); a discarded write takes no frame (R183). The transfers (R182, R183, R186):
a port answers its own address alone; a write of 1 to 64 bytes that ends at a STOP, or at the end of a read after a repeated
START, puts the command its bytes spell where the next step takes it, and leaves the response as it was; of a longer write
64 bytes are held, and LENGTH is answered; a write with no byte takes nothing; a repeated START and a write or another
address discards the bytes; a read returns the response frame and then 0x00. Of a write that a reset cuts off, neither the
bytes held nor those that come after are taken, and its end takes nothing (R191, R196). That the bytes reach the queue as
one command is the model's choice (log entry 16). -/
def Obligations.FramesAreRefused : Prop :=
  ((∀ (p : Port) (s : State),
    (p ≠ .panel → ∀ c ∈ [(Instr.consentArm p, (0x30 : Byte)), (.consentDrop p, 0x31)],
      ∃ t, exec c.1 s = .next t ∧ OnlyAnswered p c.2 .notPermitted [] (heardBy p s) t)
    ∧ (p = .link → ∀ (h : Half) (m : Byte) (v : Option Half),
      ∀ c ∈ [(Instr.clearFault p, (0x40 : Byte)), (.descaleStart p, 0x41), (.rinseStart p, 0x42), (.setHardness p h, 0x43),
        (.setBudget p m h v, 0x44), (.reset p, 0x46)],
      ∃ t, exec c.1 s = .next t ∧ OnlyAnswered p c.2 .notPermitted [] (heardBy p s) t)
    ∧ (p = .link → ∃ t, exec (.standby p) s = .next t ∧ OnlyAnswered p 0x45 .notPermitted [] s t)
    ∧ (p ≠ .service → ∀ (h : Half) (a b d : Byte),
      ∀ c ∈ [(Instr.elementConfig p a h b d, (0x60 : Byte)), (.setSupply p h a b, 0x61), (.setCal p a b, 0x62),
        (.scaleSet p h, 0x63), (.setScaleLimit p h, 0x64), (.setFillRetries p a, 0x65)],
      ∃ t, exec c.1 s = .next t ∧ OnlyAnswered p c.2 .notPermitted [] (heardBy p s) t))
  ∧ ((∀ (p : Port) (code : Byte) (s : State),
    ∃ t, exec (.formCheckFailure p [code]) s = .next t ∧ OnlyAnswered p code .length [] s t)
  ∧ (∀ (p : Port) (code n : Byte) (params : List Byte) (s : State),
    if 62 < params.length ∨ 62 < n.toNat ∨ params.length ≠ n.toNat then
      ∃ t, exec (.formCheckFailure p (code :: n :: params)) s = .next t ∧ OnlyAnswered p code .length [] s t
    else
      match allowedLengths code with
      | none =>
        ∃ t, exec (.formCheckFailure p (code :: n :: params)) s = .next t ∧ OnlyAnswered p code .unknownCommand [] s t
      | some ls => n.toNat ∉ ls →
        ∃ t, exec (.formCheckFailure p (code :: n :: params)) s = .next t ∧ OnlyAnswered p code .length [] s t)
  ∧ ∀ (p : Port) (s : State), ∃ t, exec (.writeDiscard p) s = .next t
      ∧ (∀ q, t.ports.get q = if q = p then { s.ports.get q with held := [], nacked := false } else s.ports.get q)
      ∧ SameExcept [.ports] s t))
  ∧ (∀ (p : Port) (bytes : List Byte) (s : State),
    let own : Nat := match p with | .panel => 0x3A | .link => 0x3B | .service => 0x3C
    (∀ (address : Nat) (e : WriteEnd), address ≠ own → writeTransfer p address bytes e s = s)
    ∧ (let buffer : List Byte → Bool → Port → PortRec := fun held nacked q =>
        if q = p then { s.ports.get q with write := .none, held := held, nacked := nacked } else s.ports.get q
      (∀ e ∈ [WriteEnd.stop, .readSamePort],
        let t := writeTransfer p own [] e s
        SameExcept [.ports] s t ∧ ∀ q, t.ports.get q = buffer [] false q)
      ∧ (∀ e ∈ [WriteEnd.stop, .readSamePort], bytes.length ≤ 64 → ∀ c, ofFrame p bytes = some c →
        let t := writeTransfer p own bytes e s
        t.pending = c :: s.pending ∧ SameExcept [.ports, .pending] s t ∧ (∀ q, t.ports.get q = buffer bytes false q)
          ∧ step t = exec c { t with pending := s.pending })
      ∧ (∀ e ∈ [WriteEnd.stop, .readSamePort], 64 < bytes.length →
        let t := writeTransfer p own bytes e s
        SameExcept [.ports, .pending] s t ∧ (∀ q, t.ports.get q = buffer (bytes.take 64) true q)
          ∧ ∃ u, step t = .next u ∧ OnlyAnswered p (bytes.headD 0) .length [] { s with ports := t.ports } u)
      ∧ (∀ e ∈ [WriteEnd.writeSamePort, .otherAddress],
        ∃ u, step (writeTransfer p own bytes e s) = .next u ∧ SameExcept [.ports] s u
          ∧ ∀ q, u.ports.get q = buffer [] false q))
    ∧ (∀ (pins : Pins) (by_ : Port) (more : List Byte) (e : WriteEnd), by_ ≠ .link →
      ∀ c ∈ [Instr.reset by_, .powerOnReset pins, .lineReset],
        ∃ t, exec c (receiveBytes p bytes (beginWrite p s)) = .next t
          ∧ let u := endWrite p e (receiveBytes p more t)
            SameExcept [.ports] t u
              ∧ ∀ q, u.ports.get q = if q = p then { t.ports.get q with write := .none } else t.ports.get q)
    ∧ (∀ n : Nat,
      let r := (s.ports.get p).resp
      readTransfer p n s =
        (([statusCode r.status, r.echo, BitVec.ofNat 8 r.payload.length] ++ r.payload) ++ List.replicate n 0).take n))

/-- STANDBY in READY and the idle timer's end in READY take the part to STANDBY with timer absent, freshness clear and fan off;
STANDBY is refused with BUSY in the other modes and never wakes; the timer's second counts down in READY alone (R168). What the
mode controller does with a waking command (R167, R168): from STANDBY to READY with the idle timer at 600, freshness clear, a
round due at once and MODE_CHANGED posted; in READY the timer set back; otherwise nothing. That a round begun before the wake
leaves no freshness is the model's reading of R81 (log entry 10). -/
def Obligations.StandbyIsEnteredAndLeft : Prop :=
  ((∀ (p : Port) (s : State), p ≠ .link → ∃ t, exec (.standby p) s = .next t ∧
    if s.modes.mode = .ready then
      Answered p 0x45 .ok [] s t ∧ Posted [.modeChanged] s t
        ∧ t.modes = { s.modes with mode := .standby, idle := none, fresh := false, fanOut := 0 }
        ∧ t.meas = { s.meas with schedule := .after 8 } ∧ SameExcept [.ports, .modes, .meas] s t
    else OnlyAnswered p 0x45 .busy [] s t)
  ∧ (∀ s : State, s.modes.mode = .ready → s.modes.idle = some 0 → ∃ t, exec .idleTimeout s = .next t
      ∧ OnlyPosted [.modeChanged] s t
      ∧ t.modes = { s.modes with mode := .standby, idle := none, fresh := false, fanOut := 0 }
      ∧ t.meas = { s.meas with schedule := .after 8 } ∧ SameExcept [.ports, .modes, .meas] s t)
  ∧ (∀ s : State, ∃ t, exec .idleTimerCountdown s = .next t ∧ SameExcept [.modes] s t
      ∧ t.modes = if s.modes.mode = .ready then { s.modes with idle := s.modes.idle.map fun n => n - 1 } else s.modes))
  ∧ (∀ (p : Port) (s : State),
    SameExcept [.ports, .modes, .meas] s (heardBy p s)
    ∧ (s.modes.mode = .standby →
      (heardBy p s).modes.mode = .ready ∧ (heardBy p s).modes.idle = some 600 ∧ (heardBy p s).modes.fresh = false
        ∧ (heardBy p s).meas.schedule = .atOnce ∧ Posted [.modeChanged] s (heardBy p s))
    ∧ (s.modes.mode = .ready →
      (heardBy p s).modes = { s.modes with idle := some 600 } ∧ (heardBy p s).meas = s.meas ∧ Posted [] s (heardBy p s))
    ∧ (s.modes.mode = .active ∨ s.modes.mode = .afterRun →
      (heardBy p s).modes = s.modes ∧ (heardBy p s).meas = s.meas ∧ Posted [] s (heardBy p s)))

/-- RESET from the panel or service port leaves each block as its chapter gives for a command reset (R48, R63, R84, R100,
R120, R140, R164, R165, R181, R191, R196): the settings, the calibration offsets, the scale account, the hold, the program
and the store are kept, and a write in progress on a port is abandoned. The model's own choices: the queue is kept (log
entry 5), the mark of a counted second is cleared (log entry 6), the mark of a decided slot (log entry 7), no round is left
to take and no budget counts as measured (log entry 10), FILL_FAILED or DRAIN_FAILED raised and not taken is dropped (log
entry 11), no STEP drain waits (log entry 12), and the newest mark of a channel is cleared (log entry 17). -/
def Obligations.CommandResetLeaves : Prop :=
  ∀ (p : Port) (s : State), p ≠ .link → ∃ t, exec (.reset p) s = .next t
    ∧ (∀ q, t.ports.get q = {
        write := if (s.ports.get q).write = .none then .none else .abandoned
        held := [], nacked := false, resp := { status := .noRequest, echo := 0, payload := [] }
        notices := [.modeChanged] })
    ∧ t.run = { s.run with
        state := .idle
        endCause := if runActive s then some .reset else s.run.endCause
        held := none
        durOverride := none
        probeDeclined := false
        flushPart := none
        flushHold := 0
        secondDue := false
        options := { light := false, keepWarm := false, fastPreheat := false, eco := false }
        consent := false }
    ∧ t.prompts = { list := [], history := [], nextId := 1 }
    ∧ (∀ c, t.meas.channels.get c = {
        condition := .none, resistance := none, window := none, newestMark := false
        offset := (s.meas.channels.get c).offset })
    ∧ t.meas = {
        channels := t.meas.channels
        refA := { count := 0, inRange := true }
        refB := { count := 0, inRange := true }
        present := false
        validCount := 0
        openCount := 0
        pulses := 0
        supplyW := 0
        roundCount := 0
        inProgress := none
        schedule := .atOnce
        latest := State.reset.meas.latest
        owed := { judgement := false, closure := false, fault := false, budget := false, drain := false, mode := false } }
    ∧ t.demand = State.reset.demand
    ∧ (∀ l, t.sched.entries.get l = {
        ratedW := (s.sched.entries.get l).ratedW, enabled := (s.sched.entries.get l).enabled
        rampStep := (s.sched.entries.get l).rampStep, request := 0, remaining := 0, granted := 0, rampBase := 0
        on := false, shortfall := 0, sheds := 0, slotRated := 0 })
    ∧ t.sched = { s.sched with
        entries := t.sched.entries
        frameRunning := false
        slot := 0
        slotStarted := false
        prevW := 0
        curW := 0
        foreign := 0
        computed := match s.sched.mode with | .adaptive => s.sched.limit | .manual => s.sched.manual.getD s.sched.limit
        inForce := match s.sched.mode with | .adaptive => s.sched.limit | .manual => s.sched.manual.getD s.sched.limit
        ecoCapped := false
        headroom := 0
        measured := false }
    ∧ t.water = { s.water with
        op := .idle, purpose := .none, attempt := none, failures := 0, flow := 0, drainPending := false
        steamWanted := false, declineMark := false, stepDrainWaiting := false, fillFailedRaises := 0
        drainFailedRaises := 0 }
    ∧ t.faults = { s.faults with tripped := State.reset.faults.tripped }
    ∧ t.modes = {
        mode := .ready, idle := some 600, fresh := false, cooling := none, drainOnEnd := false, resetCause := .command
        fanOut := 0 }
    ∧ SameExcept [.ports, .run, .prompts, .meas, .demand, .sched, .water, .faults, .modes] s t

/-- A power-on reset and a line reset restore the appliance record, or the defaults with rinse-owed set, WATER_CHANGED posted
and a save begun, and a write in flight is cut off (R179, R180, R181). Each other block is as its own chapter gives for these
two resets: the program gone (R1, R2, R48), the run IDLE (R48), no prompts (R63), the measurement unit (R84), no demand
(R100), the scheduler (R115, R120), the water operation (R140), no hold and no capture (R164), the mode STANDBY with the reset
cause (R165), and a write in progress on a port abandoned (R196). A record that fails its checksum is an absent one, the
queue is kept, and with a valid record no WATER_CHANGED is posted for the scale state it gives (R135): the model's choices
(log entries 15, 5, 25); the marks of a counted second, a decided slot and a measured budget,
the newest mark and what is left to take of a round are its own (log entries 6, 7, 10, 17), and so are the dropped raise of a
water fault and the waiting STEP drain (log entries 11, 12). -/
def Obligations.RestoreResetLeaves : Prop :=
  ∀ (cause : ResetCause) (pins : Pins) (s : State), cause = .powerOn ∨ cause = .line →
    ∃ t, exec (if cause = .powerOn then .powerOnReset pins else .lineReset) s = .next t ∧
      let saving := match s.store.flight with | some (.save _ _) => true | _ => false
      let record := if saving then none else s.store.record
      let r := record.getD AppRecord.defaults
      t.pins = (if cause = .powerOn then pins else s.pins)
        ∧ t.prog = { steps := [], origin := .none }
        ∧ t.run = State.reset.run ∧ t.prompts = State.reset.prompts ∧ t.demand = State.reset.demand
        ∧ t.faults = State.reset.faults
        ∧ t.modes = { State.reset.modes with resetCause := cause }
        ∧ (∀ q, t.ports.get q = {
            write := if (s.ports.get q).write = .none then .none else .abandoned
            held := [], nacked := false, resp := { status := .noRequest, echo := 0, payload := [] }
            notices := if record = none then [.waterChanged] else [] })
        ∧ t.water = { State.reset.water with
            hardness := r.hardness, scaleLimit := r.scaleLimit, account := r.account, savedMg := r.account
            descaleCount := r.descaleCount, rinseOwed := r.rinseOwed, retries := r.retries }
        ∧ (let budget : Nat := match r.mode with | .adaptive => r.limit | .manual => r.manual.getD r.limit
          t.sched = {
            entries := t.sched.entries
            frameRunning := false
            slot := 0
            slotStarted := false
            prevW := 0
            curW := 0
            limit := r.limit
            mode := r.mode
            manual := r.manual
            floor := r.floor
            foreign := 0
            computed := budget
            inForce := budget
            ecoCapped := false
            headroom := 0
            measured := false
            volts := r.volts
            scan := r.scan })
        ∧ (∀ l, t.sched.entries.get l = {
            ratedW := (r.entries.get l).ratedW, enabled := (r.entries.get l).enabled, rampStep := (r.entries.get l).rampStep
            request := 0, remaining := 0, granted := 0, rampBase := 0, on := false, shortfall := 0, sheds := 0
            slotRated := 0 })
        ∧ (∀ c, published t c = none ∧ t.meas.channels.get c = {
            condition := .none, resistance := none, window := none, newestMark := false, offset := r.offsets.get c })
        ∧ t.meas = {
            channels := t.meas.channels
            refA := { count := 0, inRange := true }
            refB := { count := 0, inRange := true }
            present := false
            validCount := 0
            openCount := 0
            pulses := 0
            supplyW := 0
            roundCount := 0
            inProgress := none
            schedule := .atOnce
            latest := State.reset.meas.latest
            owed := { judgement := false, closure := false, fault := false, budget := false, drain := false, mode := false } }
        ∧ t.store.record = record
        ∧ t.store.slots =
            (match s.store.flight with
            | some (.store n _ _) => s.store.slots.set n .corrupt
            | some (.erase n _) => s.store.slots.set n .corrupt
            | some (.save _ _) => s.store.slots
            | none => s.store.slots)
        ∧ t.store.flight = (if record = none then some (.save AppRecord.defaults false) else none)
        ∧ t.store.savePending = false ∧ t.store.saveResult = none
        ∧ (∀ q, t.store.lastWrite.get q = none)
        ∧ t.pending = s.pending

/-! ### The inputs -/

/-- The door opens: consent is cleared, a RUNNING run goes to DOOR_HELD with the loads cut and the fan off, a run in another
state stays as it is, a round not yet judged stays so (R11), the part wakes from STANDBY, and the cooling fan stops (R22, R36,
R166, R167). The door closes: a DOOR_HELD run returns to RUNNING with held-since absent and a new frame, a PAUSED run stays
PAUSED, the idle timer goes back to 600 in READY, the mode is kept otherwise (R168), and the cooling fan follows CAV above 700
(R37, R166), the latest published value taken with any calibration change since the round (log entry 18). The mark of a
decided slot is the model's own (log entry 7). The new frame has the figures and the fill test of the heating in force (R86 to
R92, R124); that a COOK fill begun there while the tank is not OK keeps the flow count is the model's choice (log entry 19).
-/
def Obligations.DoorMoves : Prop :=
  (∀ s : State, s.pins.doorOpen = false → ∃ t, exec .doorOpens s = .next t
    ∧ t.pins = { s.pins with doorOpen := true } ∧ BuffersKept s t
    ∧ (if s.run.state = .running then
        t.run = { s.run with state := .doorHeld, held := some 0, consent := false } ∧ LoadsCut s t ∧ Holds .runChanged t
          ∧ t.meas.owed = { s.meas.owed with judgement := false }
      else t.run = { s.run with consent := false } ∧ t.meas.owed = s.meas.owed ∧ t.sched = s.sched ∧ t.demand = s.demand)
    ∧ (s.run.state = .running ∨ s.modes.mode = .afterRun → t.modes.fanOut = 0)
    ∧ (s.modes.mode = .standby → t.modes.mode = .ready ∧ t.modes.idle = some 600 ∧ Holds .modeChanged t)
    ∧ (s.modes.mode = .ready → t.modes.mode = .ready ∧ t.modes.idle = some 600)
    ∧ (s.modes.mode = .active ∨ s.modes.mode = .afterRun → t.modes = { s.modes with fanOut := t.modes.fanOut })
    ∧ SameExcept [.pins, .ports, .run, .meas, .demand, .sched, .modes] s t)
  ∧ (∀ s : State, s.pins.doorOpen = true → ∃ t, exec .doorCloses s = .next t
    ∧ t.pins = { s.pins with doorOpen := false } ∧ BuffersKept s t
    ∧ (if s.run.state = .doorHeld then
        t.run = { s.run with state := .running, held := none } ∧ FrameBegun s t ∧ Holds .runChanged t
      else t.run = s.run ∧ t.sched = s.sched ∧ t.demand = s.demand ∧ t.water = s.water ∧ t.prompts = s.prompts)
    ∧ (s.run.state ≠ .doorHeld → s.modes.mode = .afterRun →
        t.modes.fanOut = if s.modes.cooling = some .cooling ∧ (∃ v ∈ published s .cav, 700 < v) then 40 else 0)
    ∧ (s.modes.mode = .standby → t.modes.mode = .ready ∧ t.modes.idle = some 600 ∧ Holds .modeChanged t)
    ∧ (let mark : Bool := s.modes.drainOnEnd
          || decide (s.run.state = .doorHeld ∧ s.run.kind = .cook ∧ t.demand.steam = .admitted)
      (s.modes.mode = .ready → t.modes = { s.modes with idle := some 600, drainOnEnd := mark })
        ∧ (s.modes.mode = .active → t.modes = { s.modes with drainOnEnd := mark })
        ∧ (s.modes.mode = .afterRun → t.modes = { s.modes with drainOnEnd := mark, fanOut := t.modes.fanOut }))
    ∧ SameExcept [.pins, .ports, .run, .meas, .demand, .sched, .modes, .water, .prompts] s t)

/-- A change of the tank inputs (R121, R128): without a change of the tank condition nothing is posted and nothing acts; a
change to NOT_OK in FILLING stops the fill in WAIT_TANK with the counts kept and REFILL_TANK open, and in the other states
acts on nothing; a change to OK within the 30 s wait begins the attempt (R62). A tank that becomes OK closes an open
REFILL_TANK CONFIRM by SENSOR, and in WAIT_TANK the attempt begins again (R56, R62). A fill in FILLING may meet the NOT_OK
tank in the KEEP_WARM phase, where R35 has no prompt raised: that REFILL_TANK is opened there too is the model's choice (log
entry 21). -/
def Obligations.TankChanges : Prop :=
  (∀ (present : Bool) (level : TankLevel) (s : State), ∃ t, exec (.tankChange present level) s = .next t
    ∧ t.pins = { s.pins with tankPresent := present, tankLevel := level }
    ∧ (tankOk t = true ↔ present = true ∧ level = .ok)
    ∧ ((tankOk t = tankOk s) → Posted [] s t ∧ SameExcept [.pins] s t)
    ∧ (tankOk s = true → tankOk t = false →
        Holds .waterChanged t
          ∧ (if s.water.op = .filling then
              t.water = { s.water with op := .waitTank false } ∧ promptOpen t .refillTank = true
                ∧ SameExcept [.pins, .ports, .prompts, .water] s t
            else Posted [.waterChanged] s t ∧ SameExcept [.pins, .ports] s t))
    ∧ (tankOk s = false → tankOk t = true → promptOpen s .refillTank = false →
        Posted [.waterChanged] s t
          ∧ (if s.water.op = .waitTank true then
              t.water = { s.water with op := if boilerWet s then .verifying else .filling, flow := 0 }
                ∧ SameExcept [.pins, .ports, .water] s t
            else SameExcept [.pins, .ports] s t)))
  ∧ (∀ s : State, tankOk s = false → s.water.op = .waitTank false →
    ∀ q, s.prompts.list.find? (fun r => r.kind = .refillTank) = some q → q.source = .water →
      ∃ t, exec (.tankChange true .ok) s = .next t
        ∧ Posted [.waterChanged, .promptClosed] s t
        ∧ t.prompts.list = s.prompts.list.filter (fun r => r.id ≠ q.id)
        ∧ t.prompts.history =
            ({ id := q.id, kind := q.kind, outcome := .confirm, by_ := .sensor } :: s.prompts.history).take 4
        ∧ t.water = { s.water with op := if boilerWet s then .verifying else .filling, flow := 0 }
        ∧ SameExcept [.pins, .ports, .prompts, .water] s t)

/-- A change of the boiler level (R122): posted; DRY switches the BOILER entry off with its slot given back (R110), fails the
attempt in VERIFYING (R126, R127), and otherwise begins a COOK fill where one is needed (R124); WET begins verification from
FILLING and WAIT_TANK with the flow count kept (R125, R129) and acts on no other state. The counted raise of a fill that has
failed for good, and the flow count kept by a fill that waits for the tank, are the model's (log entries 11, 19). In the
KEEP_WARM phase, where R35 has no prompt raised, a fill begun on a NOT_OK tank opens REFILL_TANK all the same: the model's
choice (log entry 21), and so is that with no slot begun in the frame there is none to give back (log entry 7). -/
def Obligations.BoilerLevelChanges : Prop :=
  ∀ s : State,
    (s.pins.boilerLevel = .wet → ∃ t, exec (.boilerLevelChange .dry) s = .next t
      ∧ t.pins = { s.pins with boilerLevel := .dry } ∧ Holds .waterChanged t ∧ loadOn t .boiler = false
      ∧ (∀ l, l ≠ .boiler → t.sched.entries.get l = s.sched.entries.get l)
      ∧ (loadOn s .boiler = true → s.sched.slotStarted = true →
          t.sched.entries.boiler = { s.sched.entries.boiler with
            on := false, remaining := s.sched.entries.boiler.remaining + 1, granted := s.sched.entries.boiler.granted - 1 }
          ∧ t.sched.curW = s.sched.curW - s.sched.entries.boiler.slotRated)
      ∧ (loadOn s .boiler = true → s.sched.slotStarted = false →
          t.sched.entries.boiler = { s.sched.entries.boiler with on := false }
          ∧ t.sched.curW = s.sched.curW - s.sched.entries.boiler.slotRated)
      ∧ (loadOn s .boiler = false → t.sched = s.sched)
      ∧ (if s.water.op = .verifying then AttemptFailed { s with pins := t.pins } t
        else CookFillTested { s with pins := t.pins } t)
      ∧ SameExcept [.pins, .ports, .sched, .water, .prompts] s t)
    ∧ (s.pins.boilerLevel = .dry → ∃ t, exec (.boilerLevelChange .wet) s = .next t
      ∧ t.pins = { s.pins with boilerLevel := .wet } ∧ Holds .waterChanged t
      ∧ t.water = { s.water with
          op := if s.water.op = .filling ∨ s.water.op.waitingTank = true then .verifying else s.water.op }
      ∧ (s.water.op.waitingTank = true → promptOpen t .refillTank = false)
      ∧ SameExcept [.pins, .ports, .water, .prompts] s t)

/-! ### Fills, drains and faults -/

/-- Flow pulses count in FILLING alone, and the 800th fails the attempt (R125); FILL_VOLUME_LIMIT stands for that pulse, and a
time limit fails the attempt likewise. A failed attempt is retried after RETRY_WAIT while the failures counted are within the
retries setting, and otherwise raises FILL_FAILED (R127). RETRY_WAIT's end and the end of the 30 s wait begin the attempt with
its tank check (R125): WAIT_TANK with REFILL_TANK open on a NOT_OK tank, VERIFYING on a WET level, FILLING otherwise, the flow
count 0 for these two. The model's own: the raise is counted until it is taken, with the fill need tested after it (log entry
11); WAIT_TANK keeps the flow count (log entry 19); what FILL_VOLUME_LIMIT stands for (log entry 20); and REFILL_TANK opened
in the KEEP_WARM phase too, where R35 has no prompt raised (log entry 21). The fill pump runs in FILLING alone (R123). -/
def Obligations.FillAttemptsFailAndBegin : Prop :=
  ((∀ s : State, ∃ t, exec .flowPulse s = .next t ∧
    if s.water.op = .filling then
      if s.water.flow + 1 < 800 then t.water = { s.water with flow := s.water.flow + 1 } ∧ SameExcept [.water] s t
      else
        AttemptFailed { s with water := { s.water with flow := 800 } } t
          ∧ (s.water.failures < s.water.retries → SameExcept [.water] s t) ∧ SameExcept [.water, .ports, .prompts] s t
    else t = s)
  ∧ ∀ s : State, s.water.op = .filling → ∀ c ∈ [Instr.fillTimeLimit, .fillVolumeLimit], (c = .fillVolumeLimit → 799 ≤ s.water.flow) →
      ∃ t, exec c s = .next t
        ∧ AttemptFailed (if c = .fillVolumeLimit then { s with water := { s.water with flow := 800 } } else s) t
        ∧ (s.water.failures < s.water.retries → SameExcept [.water] s t)
        ∧ (s.water.retries ≤ s.water.failures →
            t.water.fillFailedRaises = s.water.fillFailedRaises + 1 ∧ SameExcept [.water, .ports, .prompts] s t))
  ∧ (∀ s : State, s.water.op = .retryWait ∨ s.water.op = .waitTank true →
    ∃ t, exec (if s.water.op = .retryWait then .retryWaitEnd else .tankWaitEnd) s = .next t
      ∧ (tankOk s = false →
          t.water = { s.water with op := .waitTank false } ∧ promptOpen t .refillTank = true
            ∧ (promptOpen s .refillTank = false → Holds .promptRaised t)
            ∧ SameExcept [.water, .ports, .prompts] s t)
      ∧ (tankOk s = true →
          t.water = { s.water with op := if boilerWet s then .verifying else .filling, flow := 0 }
            ∧ SameExcept [.water] s t))
  ∧ (∀ s : State, fillPumpOn s = true ↔ s.water.op = .filling)

/-- The end of VERIFYING with the level WET: the last fill volume is the flow count halved; a COOK fill accrues scale
exactly as R134 gives, unless rinse-owed is set; the hardness and the limit are untouched (R126, R134). A save is asked
for where 500 mg are unsaved after the accrual (R136); a change of the scale state posts WATER_CHANGED, and BLOCK in a
steaming frame withdraws steam at once (R135, R94, R111). Where no drain waits, the operation returns to IDLE (R126). -/
def Obligations.FillAccruesScale : Prop :=
  ∀ s : State, s.water.op = .verifying → boilerWet s = true → s.water.purpose = .cook → s.run.kind = .cook →
    ∃ t, exec .verifyEnd s = .next t
      ∧ t.water.lastFill = some (s.water.flow / 2)
      ∧ t.water.hardness = s.water.hardness ∧ t.water.scaleLimit = s.water.scaleLimit
      ∧ t.modes.drainOnEnd = true
      ∧ (if s.water.rinseOwed = true then t.water.account = s.water.account ∧ t.water.remainder = s.water.remainder
        else
          let total := s.water.remainder + s.water.flow / 2 * s.water.hardness
          t.water.account = min (s.water.account + total / 1000) 65535 ∧ t.water.remainder = total % 1000)
      ∧ (let account := t.water.account
        let asked : Bool := s.water.rinseOwed = false && decide (500 ≤ account - s.water.savedMg)
        let scale := scaleStateOf account s.water.scaleLimit
        (if asked then SaveRequested s t else t.store = s.store)
          ∧ (s.water.drainPending = false → s.water.stepDrainWaiting = false →
              t.water = { s.water with
                op := .idle
                purpose := .none
                attempt := none
                lastFill := some (s.water.flow / 2)
                account := account
                remainder := t.water.remainder
                savedMg := if asked then account else s.water.savedMg }
              ∧ (if scale = scaleState s then SameExcept [.water, .modes, .store] s t else Holds .waterChanged t)
              ∧ (if scale = .block ∧ scaleState s ≠ .block ∧ s.run.state = .running ∧ s.sched.frameRunning = true
                    ∧ s.demand.steam = .admitted then
                  SteamWithdrawn s t ∧ (s.demand.reported = false → Holds .steamWithheld t)
                else t.sched = s.sched ∧ t.demand = s.demand)))
      ∧ SameExcept [.water, .modes, .ports, .demand, .sched, .store] s t

/-- The end of a drain pass (R133): WET after pass 1 begins pass 2; WET after pass 2 raises DRAIN_FAILED with the operation
IDLE and an after-run drain pending; DRY ends an after-run drain with drain pending clear, tests the need of a COOK fill
(R124) and, in AFTER_RUN that is COOLED, gives READY (R171). The water unit takes a round once: in DRAIN_WAIT_COOL a published
BOIL below 800 starts pass 1, and nothing else does (R132). The counted raise, that the round is taken in a row of its own,
and that a COOK fill begun while the tank is not OK keeps the flow count and opens REFILL_TANK in the KEEP_WARM phase too, are
the model's choices (log entries 11, 10, 19, 21). The drain pump runs in DRAINING alone (R123). -/
def Obligations.DrainsRun : Prop :=
  (∀ (second : Bool) (s : State), s.water.op = .draining second → ∃ t, exec .drainPassEnd s = .next t
    ∧ (boilerWet s = true → second = false →
        t.water = { s.water with op := .draining true } ∧ SameExcept [.water] s t)
    ∧ (boilerWet s = true → second = true →
        t.water = { s.water with
          op := .idle, purpose := .none, attempt := none, drainFailedRaises := s.water.drainFailedRaises + 1
          drainPending := s.water.drainPending || s.water.purpose = .afterRun }
        ∧ SameExcept [.water, .ports] s t)
    ∧ (boilerWet s = false → s.water.purpose = .afterRun → s.water.stepDrainWaiting = false →
        (s.water.steamWanted = false →
          t.water = { s.water with op := .idle, purpose := .none, attempt := none, drainPending := false })
        ∧ CookFillTested (opIdle { s with water := { s.water with drainPending := false } }) t
        ∧ (s.modes.mode = .afterRun → s.modes.cooling = some .cooled →
            t.modes.mode = .ready ∧ t.modes.idle = some 600 ∧ Holds .modeChanged t)
        ∧ (s.modes.mode ≠ .afterRun ∨ s.modes.cooling ≠ some .cooled → t.modes = s.modes)
        ∧ SameExcept [.water, .ports, .modes, .prompts] s t))
  ∧ (∀ s : State, s.meas.owed.drain = true → ∃ t, exec .drainCoolTest s = .next t
    ∧ t.water = { s.water with
        op :=
          if s.water.op = .drainWaitCool ∧ (∃ b ∈ s.meas.latest.readings.boil.value, b < 800) then .draining false
          else s.water.op }
    ∧ t.meas = { s.meas with owed := { s.meas.owed with drain := false } } ∧ SameExcept [.meas, .water] s t)
  ∧ (∀ s : State, drainPumpOn s = true ↔ s.water.op = .draining false ∨ s.water.op = .draining true)

/-- Each raise of FILL_FAILED or DRAIN_FAILED is taken as a fault, one at a time (R156, R157), and where none is left the
event changes nothing: with the hold clear it sets the hold and writes the capture from the run and the latest round (R158,
R159), ends an active run with cause FAULT, its prompts withdrawn, the account saved, an after-run drain recorded in drain
pending and AFTER_RUN entered (R42, R131, R170), and leaves pumps and loads off; with the hold set it counts as a later fault
(R160). CLEAR_FAULT with the hold clear is STALE; with no run active, as under the hold, it makes the checks of R162 in order;
taken, it clears the hold, the capture and the later-fault data, arms every kind, posts FAULT_ENTERED, and begins a drain that
waits in drain pending. The counts of raises, and that a kind is taken in a row of its own, are the model's reading (log entry
11), and so is that the run's end clears the FLUSH part (log entry 13) and tests CAV with any calibration change since the
round (log entry 18). -/
def Obligations.WaterFaultsAreTakenAndCleared : Prop :=
  (∀ s : State, ∀ k ∈ [FaultKind.fillFailed, .drainFailed],
    0 < (if k = .fillFailed then s.water.fillFailedRaises else s.water.drainFailedRaises) →
    ∃ t, exec (if k = .fillFailed then .fillFailed else .drainFailed) s = .next t ∧ Holds .faultEntered t ∧ t.faults.hold = true
      ∧ (if k = .fillFailed then t.water.fillFailedRaises = s.water.fillFailedRaises - 1
        else t.water.drainFailedRaises = s.water.drainFailedRaises - 1)
      ∧ (s.faults.hold = true →
          t.faults = { s.faults with later := min (s.faults.later + 1) 15, lastLater := some k }
            ∧ Posted [.faultEntered] s t ∧ SameExcept [.ports, .faults, .water] s t)
      ∧ (s.faults.hold = false →
          t.faults = { s.faults with
            hold := true
            capture := some {
              kind := k
              runKind := if runActive s then s.run.kind else .none
              stepIdx := if runActive s then some s.run.stepIdx else none
              stepElapsed := if runActive s then some s.run.stepElapsed else none
              cav := s.meas.latest.readings.cav.value
              boil := s.meas.latest.readings.boil.value
              roundCount := s.meas.roundCount } }
          ∧ fillPumpOn t = false ∧ drainPumpOn t = false ∧ LoadsCut s t
          ∧ t.run = (if runActive s then
              { s.run with state := .ended, endCause := some .fault, held := none, durOverride := none, flushPart := none }
            else s.run)
          ∧ t.modes.mode ≠ .active
          ∧ HoldEntered { s with
              faults := t.faults
              water := if k = .fillFailed then { s.water with fillFailedRaises := s.water.fillFailedRaises - 1 }
                else { s.water with drainFailedRaises := s.water.drainFailedRaises - 1 } } t
          ∧ SameExcept [.ports, .run, .prompts, .meas, .demand, .sched, .water, .faults, .modes, .store] s t))
  ∧ (∀ s : State, (s.water.fillFailedRaises = 0 → exec .fillFailed s = .next s)
      ∧ (s.water.drainFailedRaises = 0 → exec .drainFailed s = .next s))
  ∧ (∀ (p : Port) (s : State), p ≠ .link → runActive s = false → s.water.stepDrainWaiting = false →
    ∃ t, exec (.clearFault p) s = .next t ∧
      if s.faults.hold = false then OnlyAnswered p 0x40 .stale [] (heardBy p s) t
      else if (∃ c ∈ s.faults.capture, conditionPresent s c.kind = true) then
        OnlyAnswered p 0x40 .conditionPresent [] (heardBy p s) t
      else
        Answered p 0x40 .ok [] (heardBy p s) t ∧ Posted [.faultEntered] (heardBy p s) t
          ∧ t.faults = State.reset.faults
          ∧ t.water = (if s.water.op = .idle ∧ s.water.drainPending = true then
              { s.water with
                op := if (∃ b ∈ published s .boil, b < 800) then .draining false else .drainWaitCool
                purpose := .afterRun }
            else s.water)
          ∧ SameExcept [.ports, .faults, .water] (heardBy p s) t)
  ∧ (∀ (p : Port) (s : State), p ≠ .link → s.faults.hold = false →
    ∃ t, exec (.clearFault p) s = .next t ∧ OnlyAnswered p 0x40 .stale [] (heardBy p s) t)

/-! ### Seconds and limits -/

/-- The run controller's second (R24): step elapsed in RUNNING, run elapsed in every active state, held-since in DOOR_HELD and
PAUSED, the FLUSH hold in RUNNING, each within its range, and nothing else. The mark of a counted second is the model's own
(log entry 6). -/
def Obligations.SecondsCount : Prop :=
  ∀ s : State, ∃ t, exec .runSecondTick s = .next t ∧ SameExcept [.run] s t
    ∧ t.run = { s.run with
        stepElapsed := if s.run.state = .running then min (s.run.stepElapsed + 1) 65534 else s.run.stepElapsed
        runElapsed := if runActive s = true then min (s.run.runElapsed + 1) 65535 else s.run.runElapsed
        held :=
          if s.run.state = .doorHeld ∨ s.run.state = .paused then s.run.held.map fun h => min (h + 1) 3600 else s.run.held
        flushHold :=
          if s.run.state = .running ∧ s.run.flushPart = some .hold then min (s.run.flushHold + 1) 60 else s.run.flushHold
        secondDue := s.run.secondDue || s.run.state = .running }

/-- A timed step whose limit has been reached by a second counted in RUNNING ends and the run advances: PREHEAT at 2,700 s
with the mark set (R30), COOK at its override or duration (R31), REST at its duration (R32), SOAK at 1,200 s (R148). The FLUSH
hold's end makes the part DRAIN and begins a drain from IDLE (R147); the KEEP_WARM limit ends the run COMPLETED (R35); 300 s
in DOOR_HELD lead to PAUSED with held-since 0 (R37); 3,600 s in PAUSED end the run PAUSE_TIMEOUT (R40). Below its limit, in
another state, phase or step, or without a newly counted second, each of these events changes nothing. That the comparison
stands in rows of its own, after the second has been counted, is the model's choice (log entry 6), and so is the mark of a
decided slot (log entry 7); that KEEP_WARM is entered with the open prompts kept (log entry 9), and that a run end clears the
FLUSH part (log entry 13) and tests CAV with any calibration change since the round (log entry 18), and how a STEP drain asked
for outside IDLE waits (log entry 12), are its reading. The frame of an entered step has the figures and the fill test of its
heating (R88, R124); that a COOK fill begun there while the tank is not OK keeps the flow count is the model's choice (log
entry 19). -/
def Obligations.TimersEnd : Prop :=
  (∀ s : State, s.run.state = .running → s.run.phase = .steps → s.run.secondDue = true → s.modes.mode ≠ .standby →
    (∀ h, s.prog.steps[s.run.stepIdx]? = some (.preheat h) → s.run.kind = .cook → 2700 ≤ s.run.stepElapsed →
      ∃ t, exec .preheatTimeout s = .next t ∧ Advanced { s with run := { s.run with preheatMark := true } } t)
    ∧ (∀ h d g, s.prog.steps[s.run.stepIdx]? = some (.cook h d g) → s.run.kind = .cook →
        (∃ n ∈ s.run.durOverride.or d, n ≤ s.run.stepElapsed) →
      ∃ t, exec .cookDurationEnd s = .next t ∧ Advanced s t)
    ∧ (∀ f d, s.prog.steps[s.run.stepIdx]? = some (.rest f d) → s.run.kind = .cook → d ≤ s.run.stepElapsed →
      ∃ t, exec .restEnd s = .next t ∧ Advanced s t)
    ∧ (s.run.kind = .descale ∧ (s.run.stepIdx = 3 ∨ s.run.stepIdx = 6) → 1200 ≤ s.run.stepElapsed →
      ∃ t, exec .soakEnd s = .next t ∧ Advanced s t))
  ∧ (∀ s : State, s.modes.mode ≠ .standby →
    (s.run.state = .running → s.run.phase = .steps → s.run.flushPart = some .hold → 60 ≤ s.run.flushHold →
        (s.run.kind = .descale ∧ (s.run.stepIdx = 9 ∨ s.run.stepIdx = 10))
          ∨ (s.run.kind = .rinse ∧ (s.run.stepIdx = 2 ∨ s.run.stepIdx = 3)) →
        s.water.op = .idle → s.faults.hold = false →
      ∃ t, exec .flushHoldEnd s = .next t ∧ t.run = { s.run with flushPart := some .drain }
        ∧ t.water = { s.water with op := drainStart s, purpose := .step, stepDrainWaiting := false }
        ∧ SameExcept [.run, .water] s t)
    ∧ (s.run.state = .running → s.run.phase = .keepWarm → s.run.secondDue = true → 1800 ≤ s.run.stepElapsed →
      ∃ t, exec .keepWarmEnd s = .next t ∧ RunEnded .completed false s t)
    ∧ (s.run.state = .doorHeld → (∃ h ∈ s.run.held, 300 ≤ h) →
      ∃ t, exec .doorHeldLimit s = .next t ∧ OnlyPosted [.runChanged] s t
        ∧ t.run = { s.run with state := .paused, held := some 0 } ∧ LoadsCut s t
        ∧ t.modes = { s.modes with fanOut := 0 }
        ∧ t.meas = { s.meas with owed := { s.meas.owed with judgement := false } }
        ∧ SameExcept [.ports, .run, .meas, .demand, .sched, .modes] s t)
    ∧ (s.run.state = .paused → (∃ h ∈ s.run.held, 3600 ≤ h) →
      ∃ t, exec .pauseTimeout s = .next t ∧ RunEnded .pauseTimeout false s t))
  ∧ (∀ s : State,
    let step := s.prog.steps[s.run.stepIdx]?
    (s.run.state ≠ .running ∨ s.run.secondDue = false →
        ∀ e ∈ [Instr.preheatTimeout, .cookDurationEnd, .restEnd, .soakEnd, .keepWarmEnd], exec e s = .next s)
      ∧ (s.run.phase = .keepWarm →
          ∀ e ∈ [Instr.preheatTimeout, .cookDurationEnd, .restEnd, .soakEnd, .flushHoldEnd], exec e s = .next s)
      ∧ (s.run.phase = .steps → exec .keepWarmEnd s = .next s)
      ∧ (s.run.kind ≠ .cook → ∀ e ∈ [Instr.preheatTimeout, .cookDurationEnd, .restEnd], exec e s = .next s)
      ∧ (∀ h, step = some (.preheat h) → ∀ e ∈ [Instr.cookDurationEnd, .restEnd], exec e s = .next s)
      ∧ (∀ h d g, step = some (.cook h d g) →
          (∀ e ∈ [Instr.preheatTimeout, .restEnd], exec e s = .next s)
            ∧ ((∀ n ∈ s.run.durOverride.or d, s.run.stepElapsed < n) → exec .cookDurationEnd s = .next s))
      ∧ (∀ k n a, step = some (.prompt k n a) →
          ∀ e ∈ [Instr.preheatTimeout, .cookDurationEnd, .restEnd], exec e s = .next s)
      ∧ (∀ f d, step = some (.rest f d) →
          (∀ e ∈ [Instr.preheatTimeout, .cookDurationEnd], exec e s = .next s)
            ∧ (s.run.stepElapsed < d → exec .restEnd s = .next s))
      ∧ (s.run.stepElapsed < 2700 → exec .preheatTimeout s = .next s)
      ∧ (s.run.stepElapsed < 1200 ∨ s.run.kind ≠ .descale ∨ (s.run.stepIdx ≠ 3 ∧ s.run.stepIdx ≠ 6) →
          exec .soakEnd s = .next s)
      ∧ (s.run.stepElapsed < 1800 → exec .keepWarmEnd s = .next s)
      ∧ (s.run.state ≠ .running ∨ s.run.flushPart ≠ some .hold ∨ s.run.flushHold < 60 → exec .flushHoldEnd s = .next s)
      ∧ (s.run.state ≠ .doorHeld ∨ (∀ h ∈ s.run.held, h < 300) → exec .doorHeldLimit s = .next s)
      ∧ (s.run.state ≠ .paused ∨ (∀ h ∈ s.run.held, h < 3600) → exec .pauseTimeout s = .next s))

/-! ### Rounds -/

/-- A round begins unless one is in progress, and remembers whether it began outside STANDBY; the next follows 8 s after
it in STANDBY and 1 s after it otherwise (R66, R81). A completed round publishes the supply power of R79 and R80, the
round count, the reference checks of R68, each channel's conversion and the probe presence and counts of R77, and gives
each channel a value exactly when its condition is VALID, PROBE when present too (R75, R78): the mean of its window
rounded half away from zero, with its offset added (R76). What the budget computation reads is kept as it stood (R114; own
W among it, log entry 10). Each block then owes the taking of the round, the run controller only in PREPARING and RUNNING
(R11, R27, R67); that they take it in rows of their own is the model's choice (log entry 10). -/
def Obligations.RoundsBeginAndPublish : Prop :=
  (∀ s : State, ∃ t, exec .roundBegin s = .next t ∧ SameExcept [.meas] s t
    ∧ t.meas =
        if s.meas.inProgress = none then
          { s.meas with
            inProgress := some (s.modes.mode ≠ .standby)
            schedule := .after (if s.modes.mode = .standby then 8 else 1) }
        else s.meas)
  ∧ (∀ (k : RoundCounts) (s : State), s.meas.inProgress ≠ none →
    ∃ t, exec (.roundComplete k) s = .next t
      ∧ t.meas.pulses = min k.pulses 9999 ∧ t.meas.supplyW = min k.pulses 9999 * s.sched.volts / 100
      ∧ t.meas.roundCount = min (s.meas.roundCount + 1) 4294967295 ∧ t.meas.inProgress = none
      ∧ t.meas.refA = { count := k.refA, inRange := 20000 ≤ k.refA ∧ k.refA ≤ 60000 }
      ∧ t.meas.refB = { count := k.refB, inRange := 20000 ≤ k.refB ∧ k.refB ≤ 60000 }
      ∧ (∀ c, t.meas.channels.get c =
          (s.meas.channels.get c).after (convert c (if c = .cav ∨ c = .vent then k.refA else k.refB) (countOf k c)))
      ∧ (∀ c, (published t c).isSome = true ↔
          (t.meas.channels.get c).condition = .valid ∧ (c = .probe → t.meas.present = true))
      ∧ (∀ c, match (t.meas.channels.get c).window with
          | none => published t c = none
          | some w =>
            published t c =
              if c = .probe ∧ t.meas.present = false then none
              else some (Int.sign (w.w0 + w.w1 + w.w2 + w.w3) * (((w.w0 + w.w1 + w.w2 + w.w3).natAbs + 2) / 4)
                + (t.meas.channels.get c).offset))
      ∧ (∀ c, (t.meas.latest.readings.get c).condition = (t.meas.channels.get c).condition
          ∧ (t.meas.latest.readings.get c).value = published t c)
      ∧ (some t.meas.latest.beganAwake = s.meas.inProgress ∧ t.meas.latest.awake = decide (s.modes.mode ≠ .standby)
          ∧ t.meas.latest.boilerFrame = decide (s.sched.frameRunning = true ∧
              (s.demand.steam = .admitted
                ∨ (s.run.phase = .steps ∧ (builtinProgram s.run.kind)[s.run.stepIdx]? = some .soak)))
          ∧ t.meas.latest.budget = {
              mode := s.sched.mode, limit := s.sched.limit, floor := s.sched.floor, manual := s.sched.manual
              eco := s.run.options.eco, ownW := (s.sched.prevW + s.sched.curW) / 2 })
      ∧ t.meas.owed = {
          judgement := decide (s.run.state = .preparing ∨ s.run.state = .running)
          closure := t.meas.present && !s.meas.present
          fault := true
          budget := true
          drain := true
          mode := true }
      ∧ (t.meas.present =
          let c := (t.meas.channels.get .probe).condition
          if s.meas.present then !(c = .opened && decide (1 ≤ s.meas.openCount))
          else (c = .valid && decide (1 ≤ s.meas.validCount)))
      ∧ (let c := (t.meas.channels.get .probe).condition
        t.meas.validCount = (if c = .valid then min (s.meas.validCount + 1) 2 else 0)
          ∧ t.meas.openCount = (if c = .opened then min (s.meas.openCount + 1) 2 else 0))
      ∧ (Posted [] s t ∨ Posted [.sensorChanged] s t) ∧ BuffersKept s t
      ∧ ((∃ c, (t.meas.channels.get c).condition ≠ (s.meas.channels.get c).condition) ∨ t.meas.present ≠ s.meas.present →
          Holds .sensorChanged t)
      ∧ SameExcept [.ports, .meas] s t)

/-- One channel in one round (R68 to R72, R74): REFERENCE, OPEN, SHORT or VALID by the counts, the resistance rounded half up,
and the window filled by a first reading, shifted by a later one and emptied by a fault. The table temperature of a VALID
resistance is the interpolation between the breakpoints that bracket it, formed exactly and truncated toward zero (R71); outside
the table it is the end temperature, marked (R72). -/
def Obligations.ChannelsConvert : Prop :=
  ∀ (c : Channel) (r : ChannelRec) (nref ns : Nat),
    let after := r.after (convert c nref ns)
    let value := if c = .cav ∨ c = .vent then 10000 else 100000
    let ohms := (2 * (value * nref) + ns) / (2 * ns)
    (nref < 20000 ∨ 60000 < nref → after.condition = .reference ∧ after.resistance = none ∧ after.window = none)
      ∧ (20000 ≤ nref → nref ≤ 60000 →
        (ns < 16 → after.condition = .opened ∧ after.resistance = none ∧ after.window = none)
        ∧ (16 ≤ ns → 99999999 < ohms → after.condition = .opened ∧ after.resistance = none ∧ after.window = none)
        ∧ (16 ≤ ns → ohms < (if c = .cav ∨ c = .vent then 500 else 200) →
            after.condition = .short ∧ after.resistance = some ohms ∧ after.window = none)
        ∧ (16 ≤ ns → (if c = .cav ∨ c = .vent then 500 else 200) ≤ ohms → ohms ≤ 99999999 →
            after.condition = .valid ∧ after.resistance = some ohms
              ∧ (let table : List (Int × Int) :=
                  if c = .cav ∨ c = .vent then
                    [(8031, -500), (10000, 0), (13851, 1000), (17586, 2000), (21205, 3000), (24709, 4000)]
                  else
                    [(1053900, -200), (336240, 0), (100000, 250), (35880, 500), (14920, 750), (6976, 1000), (3588, 1250),
                      (1996, 1500)]
                (∀ x ∈ table.zip table.tail, min x.1.1 x.2.1 ≤ ohms → ohms ≤ max x.1.1 x.2.1 →
                  tableTemp c ohms =
                    ((x.1.2 * (x.2.1 - x.1.1) + (ohms - x.1.1) * (x.2.2 - x.1.2)).tdiv (x.2.1 - x.1.1), false))
                ∧ (c = .cav ∨ c = .vent → ohms < 8031 → tableTemp c ohms = (-500, true))
                ∧ (c = .cav ∨ c = .vent → 24709 < ohms → tableTemp c ohms = (4000, true))
                ∧ (c = .probe ∨ c = .boil → 1053900 < ohms → tableTemp c ohms = (-200, true))
                ∧ (c = .probe ∨ c = .boil → ohms < 1996 → tableTemp c ohms = (1500, true)))
              ∧ after.newestMark = (tableTemp c ohms).2
              ∧ (let t := (tableTemp c ohms).1
                (if c = .cav ∨ c = .vent then -500 ≤ t ∧ t ≤ 4000 else -200 ≤ t ∧ t ≤ 1500)
                ∧ after.window = some (match r.window with
                    | none => { w0 := t, w1 := t, w2 := t, w3 := t }
                    | some w => { w0 := w.w1, w1 := w.w2, w2 := w.w3, w3 := t }))))
      ∧ after.offset = r.offset

/-- The run controller takes a round once: PREPARING is left at a fresh round for RUNNING, or for DOOR_HELD with the door
open, with step 0 entered (R27). In RUNNING a round ends a PREHEAT step whose threshold CAV has reached (R30), and a COOK
step all of whose guards hold on the round's values, unless an EXTEND return is under way (R10, R11). Any other round leaves
the part as it is: one in DOOR_HELD, PAUSED or with no run, in the KEEP_WARM phase, in a built-in, REST or PROMPT step, and
in PREPARING one that is not fresh. The last part gives the guard tests of R10. That the round is taken in a row of its own
is the model's choice (log entry 10); the marks of a counted second and of a decided slot are its own (log entries 6, 7).
That a last step enters KEEP_WARM with the open prompts kept (log entry 9), that a run end clears the FLUSH part (log
entry 13) and tests CAV with any calibration change since the round (log entry 18), and how a STEP drain asked for outside
IDLE waits (log entry 12), are its reading. The frame of an entered step has the figures and the fill test of its heating (R88,
R124); that a COOK fill begun there while the tank is not OK keeps the flow count is the model's choice (log entry 19). -/
def Obligations.RoundsMoveTheRun : Prop :=
  (∀ s : State, s.meas.owed.judgement = true → s.run.state = .preparing →
    s.modes.fresh = true ∨ s.meas.latest.beganAwake = true → s.run.kind ≠ .none →
      ∃ t, exec .roundRunJudgement s = .next t
        ∧ t.run.state = (if s.pins.doorOpen then .doorHeld else .running)
        ∧ t.run.held = (if s.pins.doorOpen then some 0 else s.run.held)
        ∧ t.run.stepIdx = 0 ∧ t.run.stepElapsed = 0
        ∧ StepEntered 0 none { s with
            run := { s.run with
              state := if s.pins.doorOpen then .doorHeld else .running
              held := if s.pins.doorOpen then some 0 else s.run.held }
            meas := { s.meas with owed := { s.meas.owed with judgement := false } } } t
        ∧ Holds .runChanged t ∧ Holds .stepAdvanced t
        ∧ t.meas = { s.meas with owed := { s.meas.owed with judgement := false } }
        ∧ SameExcept (.meas :: stepBlocks) s t)
  ∧ (∀ s : State, s.meas.owed.judgement = true → s.run.state = .running → s.run.phase = .steps → s.run.kind = .cook →
    s.modes.mode ≠ .standby →
    let taken := { s with meas := { s.meas with owed := { s.meas.owed with judgement := false } } }
    (∀ h, s.prog.steps[s.run.stepIdx]? = some (.preheat h) →
      ∃ t, exec .roundRunJudgement s = .next t ∧
        if (∃ v ∈ s.meas.latest.readings.cav.value, h.setpoint - 20 ≤ v) then Advanced taken t else t = taken)
    ∧ (∀ h d g, s.prog.steps[s.run.stepIdx]? = some (.cook h d g) →
      ∃ t, exec .roundRunJudgement s = .next t ∧
        if g ≠ [] ∧ s.run.durOverride = none
            ∧ (∀ e ∈ g, (s.run.probeDeclined = true ∧ e.sensor = .probe)
                ∨ ∃ v ∈ (s.meas.latest.readings.get e.sensor).value, e.test.holds v = true) then Advanced taken t
        else t = taken))
  ∧ (∀ s : State, s.meas.owed.judgement = true →
    (s.run.state = .preparing ∧ s.modes.fresh = false ∧ s.meas.latest.beganAwake = false)
      ∨ (s.run.state ≠ .preparing ∧
          (s.run.state ≠ .running ∨ s.run.phase = .keepWarm ∨ s.run.kind ≠ .cook
            ∨ s.prog.steps[s.run.stepIdx]?.any (fun x =>
                match x with
                | .preheat _ => false
                | .cook _ _ _ => false
                | .prompt _ _ _ => true
                | .rest _ _ => true) = true)) →
      ∃ t, exec .roundRunJudgement s = .next t
        ∧ t = { s with meas := { s.meas with owed := { s.meas.owed with judgement := false } } })
  ∧ (∀ (t1 t2 v : Int),
    ((GuardTest.atMost t1).holds v = true ↔ v ≤ t1) ∧ ((GuardTest.atLeast t1).holds v = true ↔ v ≥ t1)
      ∧ ((GuardTest.near t1 t2).holds v = true ↔ |v - t1| ≤ t2)
      ∧ ((GuardTest.inside t1 t2).holds v = true ↔ t1 ≤ v ∧ v ≤ t2)
      ∧ ((GuardTest.outside t1 t2).holds v = true ↔ v < t1 ∨ v > t2)
      ∧ ∀ (sensor : Channel) (test : GuardTest) (r : PerChannel Reading), (r.get sensor).value = none →
          guardTrue false r { sensor := sensor, test := test } = false)

/-- The fault unit takes a round once (R155, R156): the first two lines of the statement give R155's table, what a round
shows of each kind and when its condition is present. A kind is detected only while ARMED; with none detected the hold and
its record stay and each TRIPPED kind re-arms where its condition is absent; with one or more detected FAULT_ENTERED is
posted, the hold is set, and with the hold clear before it the first in the order of R157 is captured and the hold entered
as R158 says: the water operation stopped, an active run ended with cause FAULT with all that its end brings, or AFTER_RUN
entered with no run. That the round is taken in a row of its own is the model's choice (log entry 10), and so is that the
run's end clears the FLUSH part (log entry 13) and tests CAV with any calibration change since the round (log entry 18). -/
def Obligations.RoundsAreTested : Prop :=
  ∀ s : State, s.meas.owed.fault = true →
    let r := s.meas.latest
    let outOfRange : Bool := !s.meas.refA.inRange || !s.meas.refB.inRange
    let openOrShort : Condition → Bool := fun c => c = .opened || c = .short
    let shows : FaultKind → Bool := fun k =>
      match k with
      | .reference => outOfRange
      | .cavityOvertemp => decide (∃ v ∈ r.readings.cav.value, 2900 < v)
      | .cavitySensor => openOrShort r.readings.cav.condition && r.awake
      | .boilerOvertemp => decide (∃ v ∈ r.readings.boil.value, 1400 < v)
      | .boilerSensor => openOrShort r.readings.boil.condition && r.boilerFrame
      | .fillFailed => false
      | .drainFailed => false
    let present : FaultKind → Bool := fun k =>
      match k with
      | .reference => outOfRange
      | .cavityOvertemp => decide (∀ v ∈ r.readings.cav.value, 2700 < v)
      | .cavitySensor => openOrShort r.readings.cav.condition || r.readings.cav.condition = .reference
      | .boilerOvertemp => decide (∀ v ∈ r.readings.boil.value, 1300 < v)
      | .boilerSensor => openOrShort r.readings.boil.condition || r.readings.boil.condition = .reference
      | .fillFailed => false
      | .drainFailed => false
    (∀ k, roundShows s k = shows k ∧ conditionPresent s k = present k)
    ∧ ∃ t, exec .faultRoundTest s = .next t
    ∧ (∀ k ∈ roundKinds, t.faults.tripped.get k =
        ((!s.faults.tripped.get k && shows k) || (s.faults.tripped.get k && present k)))
    ∧ t.meas.owed.fault = false
    ∧ ((∀ k ∈ roundKinds, s.faults.tripped.get k = true ∨ shows k = false) →
        t.faults = { s.faults with tripped := t.faults.tripped } ∧ Posted [] s t ∧ SameExcept [.meas, .faults] s t)
    ∧ (match roundKinds.filter (fun j => !s.faults.tripped.get j && shows j) with
      | [] => True
      | k :: ks =>
        Holds .faultEntered t ∧ t.faults.hold = true
          ∧ (s.faults.hold = false →
              t.faults.capture = some (captureOf k s)
                ∧ t.faults.later = (if ks = [] then s.faults.later else min (s.faults.later + ks.length) 15)
                ∧ t.faults.lastLater = ks.getLast?.or s.faults.lastLater
                ∧ runActive t = false ∧ LoadsCut s t
                ∧ HoldEntered { s with
                    faults := t.faults, meas := { s.meas with owed := { s.meas.owed with fault := false } } } t)
          ∧ (s.faults.hold = true →
              t.faults.capture = s.faults.capture ∧ t.faults.later = min (s.faults.later + 1 + ks.length) 15
                ∧ t.faults.lastLater = (k :: ks).getLast?
                ∧ SameExcept [.meas, .faults, .ports] s t))

/-- The load scheduler takes a round once: own W, foreign draw, computed budget and the ECO cap exactly as R114 gives from
what stood at the round's completion; a supply power within the limit sheds nothing, and every setting and configured
field stays as it was. The shed of R112: of the entries that are on, in the order BOILER, GRILL, BOTTOM, TOP, RING, each
is switched off exactly while the ratings of those on before it, counted as they stand, do not yet cover the excess; each
gives its slot back, is counted, and comes off current slot watts with the rating with which the slot began. That own W
and the limit of the shed are those of the completion too, and that the round is taken in a row of its own, is the model's
reading (log entry 10). -/
def Obligations.BudgetFollowsTheRound : Prop :=
  (∀ s : State, s.meas.owed.budget = true → ∃ t, exec .budgetRecompute s = .next t ∧
    let at_ := s.meas.latest.budget
    let foreign := s.meas.supplyW - at_.ownW
    let base : Nat :=
      match at_.mode with
      | .adaptive => min (max (at_.limit - foreign) at_.floor) at_.limit
      | .manual => at_.manual.getD at_.limit
    t.sched.foreign = foreign
      ∧ t.sched.computed = (if at_.eco then min base 2000 else base)
      ∧ t.sched.ecoCapped = (at_.eco && decide (2000 < base))
      ∧ t.sched.inForce = s.sched.inForce ∧ t.sched.measured = true
      ∧ t.sched = { s.sched with
          entries := t.sched.entries
          curW := t.sched.curW
          foreign := t.sched.foreign
          computed := t.sched.computed
          ecoCapped := t.sched.ecoCapped
          measured := true }
      ∧ (∀ l, let e := t.sched.entries.get l
          e = { s.sched.entries.get l with
            on := e.on, remaining := e.remaining, granted := e.granted, sheds := e.sheds })
      ∧ (s.meas.supplyW ≤ at_.limit → t.sched.entries = s.sched.entries ∧ t.sched.curW = s.sched.curW)
      ∧ t.meas = { s.meas with owed := { s.meas.owed with budget := false } } ∧ SameExcept [.meas, .sched] s t)
  ∧ (∀ s : State, s.meas.owed.budget = true → s.sched.slotStarted = true → ∃ t, exec .budgetRecompute s = .next t
    ∧ (∀ l, loadOn t l = true → loadOn s l = true)
    ∧ (∀ l, loadOn t l = true →
        s.meas.supplyW ≤ s.meas.latest.budget.limit
          + (loadsInOrder.map fun m => if loadOn s m && !loadOn t m then (s.sched.entries.get m).ratedW else 0).sum)
    ∧ (∀ l, loadOn s l = true →
        let before := [Load.boiler, .grill, .bottom, .top, .ring].takeWhile (fun m => m ≠ l)
        (loadOn t l = false ↔
          (before.map fun m => if loadOn s m then (s.sched.entries.get m).ratedW else 0).sum
            < s.meas.supplyW - s.meas.latest.budget.limit))
    ∧ t.sched.curW = s.sched.curW
        - (loadsInOrder.map fun m => if loadOn s m && !loadOn t m then (s.sched.entries.get m).slotRated else 0).sum
    ∧ (∀ l, loadOn s l = true → loadOn t l = false →
        t.sched.entries.get l =
          { s.sched.entries.get l with
            on := false
            remaining := (s.sched.entries.get l).remaining + 1
            granted := (s.sched.entries.get l).granted - 1
            sheds := (s.sched.entries.get l).sheds + 1 })
    ∧ (∀ l, loadOn t l = loadOn s l → t.sched.entries.get l = s.sched.entries.get l)
    ∧ (loadOn s .ring = true → loadOn t .ring = false → ∀ l, loadOn t l = false))

/-- The mode controller takes a round once (R81, R166, R171): a round begun outside STANDBY makes the readings fresh; in
AFTER_RUN a CAV below 700 makes it COOLED, the fan runs at 40 only while COOLING with the door closed and CAV above 700, and
COOLED with no drain owed leads to READY. That the round is taken in a row of its own is the model's choice (log entry 10). -/
def Obligations.ModeFollowsTheRound : Prop :=
  ∀ s : State, s.meas.owed.mode = true → ∃ t, exec .modeRoundUpdate s = .next t ∧
    let cav := s.meas.latest.readings.cav.value
    t.modes.fresh = (s.modes.fresh || s.meas.latest.beganAwake)
      ∧ (s.modes.mode ≠ .afterRun → t.modes = { s.modes with fresh := t.modes.fresh } ∧ Posted [] s t)
      ∧ (s.modes.mode = .afterRun →
          (s.modes.cooling = some .cooled ∨ s.modes.cooling = some .cooling ∧ ∃ v ∈ cav, v < 700) →
          (if drainOwed s = true then
            t.modes.mode = .afterRun ∧ t.modes.cooling = some .cooled ∧ t.modes.fanOut = 0 ∧ Posted [] s t
          else
            t.modes.mode = .ready ∧ t.modes.idle = some 600 ∧ t.modes.cooling = none ∧ t.modes.fanOut = 0
              ∧ Posted [.modeChanged] s t))
      ∧ (s.modes.mode = .afterRun → s.modes.cooling = some .cooling → (∀ v ∈ cav, 700 ≤ v) →
          t.modes.mode = .afterRun ∧ t.modes.cooling = some .cooling ∧ Posted [] s t
            ∧ t.modes.fanOut = if s.pins.doorOpen = false ∧ (∃ v ∈ cav, 700 < v) then 40 else 0)
      ∧ t.meas = { s.meas with owed := { s.meas.owed with mode := false } }
      ∧ SameExcept [.meas, .modes, .ports] s t

/-! ### Slots and frames -/

/-- A slot start in a running frame takes up the computed budget, decides the slot, applies the fan duty and shifts the
slot- watts record (R97, R102, R107); the rated watts switched on stay within the budget in force minus the 115 W reserve,
no disabled entry goes on, and BOILER goes on only with the level WET (R106), and every setting and configured field stays
as it was. The walk of R105: the urgent entries in position order, then the others from position n mod 5; an entry goes on
exactly when it is enabled, owed a slot and fits what those on before it leave, BOILER with the level WET only, and with
scan off when no owed entry before it stayed off (R106). Where no budget has been computed since a reset, the round still
owed is taken first, so that no slot is walked under the budget a reset leaves (R115; log entry 10). Which of SLOT_START
and FRAME_COMPLETE decides slot 0 is the model's choice (log entry 7). -/
def Obligations.SlotsKeepTheBudget : Prop :=
  (∀ s : State, s.sched.frameRunning = true → s.run.state = .running → (s.sched.slotStarted = true → s.sched.slot < 39) →
    let b := slotFinds s
    ∃ t, exec .slotStart s = .next t
      ∧ t.sched.slot = (if s.sched.slotStarted then s.sched.slot + 1 else s.sched.slot)
      ∧ t.sched.slotStarted = true ∧ t.sched.inForce = b.sched.computed ∧ t.modes = { s.modes with fanOut := s.demand.fanDuty }
      ∧ t.sched.prevW = b.sched.curW
      ∧ t.sched.curW = (loadsInOrder.map fun l => if loadOn t l then (t.sched.entries.get l).ratedW else 0).sum
      ∧ t.sched.curW ≤ b.sched.computed - 115
      ∧ (∀ l, loadOn t l = true →
          (b.sched.entries.get l).enabled = true ∧ 0 < (b.sched.entries.get l).remaining
            ∧ (l = .boiler → s.pins.boilerLevel = .wet)
            ∧ t.sched.entries.get l =
                { b.sched.entries.get l with
                  on := true
                  remaining := (b.sched.entries.get l).remaining - 1
                  granted := (b.sched.entries.get l).granted + 1
                  slotRated := (b.sched.entries.get l).ratedW })
      ∧ (∀ l, loadOn t l = false → t.sched.entries.get l = { b.sched.entries.get l with on := false })
      ∧ t.sched = { b.sched with
          entries := t.sched.entries
          slot := t.sched.slot
          slotStarted := true
          inForce := b.sched.computed
          headroom := t.sched.headroom
          prevW := b.sched.curW
          curW := t.sched.curW }
      ∧ SameExcept [.sched, .modes] b t)
  ∧ (∀ s : State, s.sched.frameRunning = true → s.run.state = .running → (s.sched.slotStarted = true → s.sched.slot < 39) →
    let b := slotFinds s
    ∃ t, exec .slotStart s = .next t ∧
      let entry := fun l => b.sched.entries.get l
      let n := t.sched.slot
      let positions : List Load := [.ring, .top, .bottom, .grill, .boiler]
      let urgent : Load → Bool := fun l => decide (40 - n ≤ (entry l).remaining)
      let order := positions.filter urgent
        ++ (positions.drop (n % 5) ++ positions.take (n % 5)).filter (fun l => !urgent l)
      let owed : Load → Prop := fun l => (entry l).enabled = true ∧ 0 < (entry l).remaining
      let takenBefore : Load → Nat := fun l =>
        ((order.takeWhile (fun m => m ≠ l)).map fun m => if loadOn t m then (entry m).ratedW else 0).sum
      (∀ l, loadOn t l = true ↔
        owed l ∧ (entry l).ratedW + takenBefore l ≤ b.sched.computed - 115 ∧ (l = .boiler → s.pins.boilerLevel = .wet)
          ∧ (s.sched.scan = true ∨ ∀ m ∈ order.takeWhile (fun m => m ≠ l), owed m → loadOn t m = true))
      ∧ t.sched.headroom = b.sched.computed - 115 - t.sched.curW)

/-- The end of slot 39 (R103, R108): each shortfall becomes what remained, and a new frame begins with every request formed
under its ramp limit and the figures of the heating in force (R86 to R92, R124); the slot start that follows decides its slot
0 as SlotsKeepTheBudget says, and a SLOT_START that stands for both ends exactly where the two after each other end. That a
COOK fill begun while the tank is not OK keeps the flow count is the model's choice (log entry 19). How FRAME_COMPLETE and
SLOT_START share this, with the mark of a decided slot, is the model's choice (log entry 7), and so is how a budget still owed
after a reset is taken first (R115; log entry 10). -/
def Obligations.FramesComplete : Prop :=
  ∀ s : State, s.sched.frameRunning = true → s.run.state = .running → s.sched.slotStarted = true → s.sched.slot = 39 →
    (∃ t, exec .frameComplete s = .next t
      ∧ (∀ l, (t.sched.entries.get l).shortfall = (s.sched.entries.get l).remaining)
      ∧ FrameBegun { s with sched := s.sched.recordShortfall } t
      ∧ t.run = s.run ∧ SameExcept stepBlocks s t)
    ∧ ∃ u, exec .frameComplete (slotFinds s) = .next u
      ∧ FrameBegun { slotFinds s with sched := (slotFinds s).sched.recordShortfall } u
      ∧ u.run = s.run ∧ u.sched.frameRunning = true ∧ u.sched.slotStarted = false ∧ u.sched.slot = 0
      ∧ ∃ t, exec .slotStart s = .next t ∧ exec .slotStart u = .next t
        ∧ (∀ l, (t.sched.entries.get l).shortfall = ((slotFinds s).sched.entries.get l).remaining)
        ∧ t.sched.slot = 0 ∧ t.sched.slotStarted = true ∧ t.demand = u.demand ∧ t.modes.fanOut = t.demand.fanDuty

/-- The demand unit's figures of a new frame for a COOK step (R89 to R92): the cavity demand from CAV with the row's hold
factor and band, each element's request from its share rounded half up, the step's fan, the steam condition (R91), and
BOILER only with steam ADMITTED: 40 slots with BOIL below 960, else the level's, halved with VENT at 990 or more, none
with the level DRY or BOIL without a value (R92); steam WITHHELD leaves the report mark set, with STEAM_WITHHELD posted
exactly where it was clear, and any other frame keeps the mark and posts none (R93). With it the water unit's frame test
(R124, R129): steam wanted set or cleared, a COOK fill begun where one is needed, and a fill in WAIT_TANK whose need has
gone ended. That a COOK fill begun while the tank is not OK keeps the flow count is the model's choice (log entry 19). -/
def Obligations.FramesAskForHeat : Prop :=
  ∀ s : State,
    s.sched.frameRunning = true → s.run.state = .running → s.sched.slotStarted = true → s.sched.slot = 39 →
    s.run.kind = .cook → s.run.phase = .steps →
    ∀ h d g, s.prog.steps[s.run.stepIdx]? = some (.cook h d g) →
      ∃ t, exec .frameComplete s = .next t ∧
        let row := shareRow h.mode
        let demand : Int → Int := fun cav =>
          max 0 (min 100 ((h.setpoint * row.hold).tdiv 1000 + ((h.setpoint - cav) * 100).tdiv row.band))
        (∀ cav, published s .cav = some cav →
          t.demand.cavityDemand = some (demand cav).toNat
            ∧ t.demand.requests.ring = ((demand cav).toNat * row.ring * 40 + 5000) / 10000
            ∧ t.demand.requests.top = ((demand cav).toNat * row.top * 40 + 5000) / 10000
            ∧ t.demand.requests.bottom = ((demand cav).toNat * row.bottom * 40 + 5000) / 10000
            ∧ t.demand.requests.grill = ((demand cav).toNat * row.grill * 40 + 5000) / 10000)
        ∧ (published s .cav = none → t.demand.cavityDemand = none ∧ t.demand.requests.ring = 0 ∧ t.demand.requests.top = 0
            ∧ t.demand.requests.bottom = 0 ∧ t.demand.requests.grill = 0)
        ∧ HeatRequested h false s t

/-- The demand unit's figures of a new frame for the other heatings: a PREHEAT step as a COOK step, with the FAST_PREHEAT
additions where they apply (R19, R89 to R92); a REST step with its fan alone (R96); a PROMPT step with the heating of the
nearest earlier step that is not a PROMPT step, or none (R33); a SOAK step with BOILER alone, from BOIL and the level
(R95), and the other built-in steps with nothing; and the KEEP_WARM phase as TOP_BOTTOM at 650 without steam and fan (R35,
R96). STEAM_WITHHELD is posted under the mark by a heating whose steam is WITHHELD, and by none of the others, which keep
the mark (R93). Each frame of a COOK run carries the water unit's frame test (R124, R129), KEEP_WARM's as that of a step
that does not steam; that a COOK fill begun there while the tank is not OK keeps the flow count is the model's choice (log
entry 19). -/
def Obligations.FramesAskForOtherHeat : Prop :=
  ∀ s : State,
    s.sched.frameRunning = true → s.run.state = .running → s.sched.slotStarted = true → s.sched.slot = 39 →
    (∀ h, s.prog.steps[s.run.stepIdx]? = some (.preheat h) → s.run.kind = .cook → s.run.phase = .steps →
      ∃ t, exec .frameComplete s = .next t
        ∧ HeatRequested h (s.run.options.fastPreheat && (h.mode = .convect || h.mode = .combi)) s t)
    ∧ (∀ f d, s.prog.steps[s.run.stepIdx]? = some (.rest f d) → s.run.kind = .cook → s.run.phase = .steps →
      ∃ t, exec .frameComplete s = .next t ∧ NothingRequested f s t ∧ WaterAtFrame 0 s t)
    ∧ (∀ k n a, s.prog.steps[s.run.stepIdx]? = some (.prompt k n a) → s.run.kind = .cook → s.run.phase = .steps →
      ∃ t, exec .frameComplete s = .next t ∧ PromptRequested s.run.stepIdx s t)
    ∧ ((s.run.kind = .descale ∧ s.run.stepIdx ≠ 3 ∧ s.run.stepIdx ≠ 6) ∨ s.run.kind = .rinse → s.run.phase = .steps →
      ∃ t, exec .frameComplete s = .next t ∧ NothingRequested 0 s t)
    ∧ (s.run.kind = .descale ∧ (s.run.stepIdx = 3 ∨ s.run.stepIdx = 6) → s.run.phase = .steps →
      ∃ t, exec .frameComplete s = .next t ∧ SoakRequested s t)
    ∧ (s.run.phase = .keepWarm → ∃ t, exec .frameComplete s = .next t ∧ KeepWarmRequested s t)

/-! ### What every step keeps -/

/-- Every step keeps each notice set free of repeats, whatever is posted (R188), and every stored setting in its range, live, in
the appliance record and in a save in flight, with the two relations of R113 and the scale account's ranges of R134. -/
def Obligations.NoticesAndSettingsStayInRange : Prop :=
  (∀ s t : State, NoticesOnce s → step s = .next t → NoticesOnce t)
  ∧ (∀ s t : State, SettingsInRange s → step s = .next t → SettingsInRange t)

/-- No step lets a run be active under the hold, a load be on outside RUNNING with the door closed and the hold clear, or the
mode part from the run (R109, R159, R161, R165, R169). -/
def Obligations.LoadsAndHoldStaySafe : Prop :=
  ∀ s t : State, HoldExcludesRun s ∧ LoadsOnlyInRunning s ∧ ModeFollowsRun s → step s = .next t →
    HoldExcludesRun t ∧ LoadsOnlyInRunning t ∧ ModeFollowsRun t

/-- The BOILER entry is on only while the level reads WET (R110), the frame figures stay in order (R103), and steam is ADMITTED only
in RUNNING of a COOK run (R91, R95, R98). -/
def Obligations.FramesStayInOrder : Prop :=
  ∀ s t : State, BoilerOnlyWet s ∧ EntriesInFrame s ∧ LoadsOnlyInRunning s ∧ RecordsAcceptable s ∧ SteamOnlyInCook s →
    step s = .next t → BoilerOnlyWet t ∧ EntriesInFrame t ∧ SteamOnlyInCook t

/-- The program table, every VALID slot and a store in flight hold only records that PROGRAM_PUT_STEP would accept unchanged, at
most 16 of them, and the library keeps its 24 slots (R1, R172, R173). -/
def Obligations.RecordsStayAcceptable : Prop :=
  ∀ s t : State, RecordsAcceptable s ∧ LibraryWhole s → step s = .next t → RecordsAcceptable t ∧ LibraryWhole t

/-- An active run's step index stays below its program's length (R29). -/
def Obligations.StepStaysWithinProgram : Prop :=
  ∀ s t : State, StepWithinProgram s → step s = .next t → StepWithinProgram t

/-- The prompt list keeps at most one prompt of a source, with distinct ids of 1 to 255 that are not the next id, and the
history at most 4 closures (R49, R50, R51, R59). -/
def Obligations.PromptsStayOrdered : Prop :=
  ∀ s t : State, PromptsOrdered s ∧ RecordsAcceptable s → step s = .next t → PromptsOrdered t

/-- The water operation's figures stay in their ranges, no fill stands outside an active run, nothing runs under the hold, IDLE
serves nobody, and no after-run drain stands in an active built-in run (R123, R127, R131, R143). -/
def Obligations.WaterStaysInRange : Prop :=
  ∀ s t : State, WaterInRange s ∧ HoldExcludesRun s ∧ SettingsInRange s → step s = .next t → WaterInRange t

/-- The state after a power-on reset has every property that the steps keep. Where a property speaks of the store or the
inputs, it rests on the model's values (log entries 1, 2). -/
def Obligations.ResetKeepsAll : Prop :=
  NoticesOnce State.reset ∧ SettingsInRange State.reset ∧ HoldExcludesRun State.reset ∧ LoadsOnlyInRunning State.reset
    ∧ ModeFollowsRun State.reset ∧ BoilerOnlyWet State.reset ∧ EntriesInFrame State.reset ∧ RecordsAcceptable State.reset
    ∧ LibraryWhole State.reset ∧ StepWithinProgram State.reset ∧ PromptsOrdered State.reset ∧ WaterInRange State.reset
    ∧ SteamOnlyInCook State.reset
end

