-- ==== Sys2Proof/Laws/State.lean ====
section
/-! SUPPORT. One lemma for each block update, giving every block after it, and the item lemmas of the small collections. -/

namespace Sys2Proof.Machine

/-! ### Block updates -/

@[simp] theorem mapPins_blocks (s : State) (f : Pins → Pins) :
    (s.mapPins f).pins = f s.pins ∧ (s.mapPins f).ports = s.ports ∧ (s.mapPins f).prog = s.prog
      ∧ (s.mapPins f).run = s.run ∧ (s.mapPins f).prompts = s.prompts ∧ (s.mapPins f).meas = s.meas
      ∧ (s.mapPins f).demand = s.demand ∧ (s.mapPins f).sched = s.sched ∧ (s.mapPins f).water = s.water
      ∧ (s.mapPins f).faults = s.faults ∧ (s.mapPins f).modes = s.modes ∧ (s.mapPins f).store = s.store
      ∧ (s.mapPins f).pending = s.pending :=
  ⟨rfl, rfl, rfl, rfl, rfl, rfl, rfl, rfl, rfl, rfl, rfl, rfl, rfl⟩

@[simp] theorem mapPorts_blocks (s : State) (f : PerPort PortRec → PerPort PortRec) :
    (s.mapPorts f).pins = s.pins ∧ (s.mapPorts f).ports = f s.ports ∧ (s.mapPorts f).prog = s.prog
      ∧ (s.mapPorts f).run = s.run ∧ (s.mapPorts f).prompts = s.prompts ∧ (s.mapPorts f).meas = s.meas
      ∧ (s.mapPorts f).demand = s.demand ∧ (s.mapPorts f).sched = s.sched ∧ (s.mapPorts f).water = s.water
      ∧ (s.mapPorts f).faults = s.faults ∧ (s.mapPorts f).modes = s.modes ∧ (s.mapPorts f).store = s.store
      ∧ (s.mapPorts f).pending = s.pending :=
  ⟨rfl, rfl, rfl, rfl, rfl, rfl, rfl, rfl, rfl, rfl, rfl, rfl, rfl⟩

@[simp] theorem mapProg_blocks (s : State) (f : Program → Program) :
    (s.mapProg f).pins = s.pins ∧ (s.mapProg f).ports = s.ports ∧ (s.mapProg f).prog = f s.prog
      ∧ (s.mapProg f).run = s.run ∧ (s.mapProg f).prompts = s.prompts ∧ (s.mapProg f).meas = s.meas
      ∧ (s.mapProg f).demand = s.demand ∧ (s.mapProg f).sched = s.sched ∧ (s.mapProg f).water = s.water
      ∧ (s.mapProg f).faults = s.faults ∧ (s.mapProg f).modes = s.modes ∧ (s.mapProg f).store = s.store
      ∧ (s.mapProg f).pending = s.pending :=
  ⟨rfl, rfl, rfl, rfl, rfl, rfl, rfl, rfl, rfl, rfl, rfl, rfl, rfl⟩

@[simp] theorem mapRun_blocks (s : State) (f : Run → Run) :
    (s.mapRun f).pins = s.pins ∧ (s.mapRun f).ports = s.ports ∧ (s.mapRun f).prog = s.prog
      ∧ (s.mapRun f).run = f s.run ∧ (s.mapRun f).prompts = s.prompts ∧ (s.mapRun f).meas = s.meas
      ∧ (s.mapRun f).demand = s.demand ∧ (s.mapRun f).sched = s.sched ∧ (s.mapRun f).water = s.water
      ∧ (s.mapRun f).faults = s.faults ∧ (s.mapRun f).modes = s.modes ∧ (s.mapRun f).store = s.store
      ∧ (s.mapRun f).pending = s.pending :=
  ⟨rfl, rfl, rfl, rfl, rfl, rfl, rfl, rfl, rfl, rfl, rfl, rfl, rfl⟩

@[simp] theorem mapPrompts_blocks (s : State) (f : Prompts → Prompts) :
    (s.mapPrompts f).pins = s.pins ∧ (s.mapPrompts f).ports = s.ports ∧ (s.mapPrompts f).prog = s.prog
      ∧ (s.mapPrompts f).run = s.run ∧ (s.mapPrompts f).prompts = f s.prompts ∧ (s.mapPrompts f).meas = s.meas
      ∧ (s.mapPrompts f).demand = s.demand ∧ (s.mapPrompts f).sched = s.sched ∧ (s.mapPrompts f).water = s.water
      ∧ (s.mapPrompts f).faults = s.faults ∧ (s.mapPrompts f).modes = s.modes ∧ (s.mapPrompts f).store = s.store
      ∧ (s.mapPrompts f).pending = s.pending :=
  ⟨rfl, rfl, rfl, rfl, rfl, rfl, rfl, rfl, rfl, rfl, rfl, rfl, rfl⟩

@[simp] theorem mapMeas_blocks (s : State) (f : Meas → Meas) :
    (s.mapMeas f).pins = s.pins ∧ (s.mapMeas f).ports = s.ports ∧ (s.mapMeas f).prog = s.prog
      ∧ (s.mapMeas f).run = s.run ∧ (s.mapMeas f).prompts = s.prompts ∧ (s.mapMeas f).meas = f s.meas
      ∧ (s.mapMeas f).demand = s.demand ∧ (s.mapMeas f).sched = s.sched ∧ (s.mapMeas f).water = s.water
      ∧ (s.mapMeas f).faults = s.faults ∧ (s.mapMeas f).modes = s.modes ∧ (s.mapMeas f).store = s.store
      ∧ (s.mapMeas f).pending = s.pending :=
  ⟨rfl, rfl, rfl, rfl, rfl, rfl, rfl, rfl, rfl, rfl, rfl, rfl, rfl⟩

@[simp] theorem mapDemand_blocks (s : State) (f : Demand → Demand) :
    (s.mapDemand f).pins = s.pins ∧ (s.mapDemand f).ports = s.ports ∧ (s.mapDemand f).prog = s.prog
      ∧ (s.mapDemand f).run = s.run ∧ (s.mapDemand f).prompts = s.prompts ∧ (s.mapDemand f).meas = s.meas
      ∧ (s.mapDemand f).demand = f s.demand ∧ (s.mapDemand f).sched = s.sched ∧ (s.mapDemand f).water = s.water
      ∧ (s.mapDemand f).faults = s.faults ∧ (s.mapDemand f).modes = s.modes ∧ (s.mapDemand f).store = s.store
      ∧ (s.mapDemand f).pending = s.pending :=
  ⟨rfl, rfl, rfl, rfl, rfl, rfl, rfl, rfl, rfl, rfl, rfl, rfl, rfl⟩

@[simp] theorem mapSched_blocks (s : State) (f : Sched → Sched) :
    (s.mapSched f).pins = s.pins ∧ (s.mapSched f).ports = s.ports ∧ (s.mapSched f).prog = s.prog
      ∧ (s.mapSched f).run = s.run ∧ (s.mapSched f).prompts = s.prompts ∧ (s.mapSched f).meas = s.meas
      ∧ (s.mapSched f).demand = s.demand ∧ (s.mapSched f).sched = f s.sched ∧ (s.mapSched f).water = s.water
      ∧ (s.mapSched f).faults = s.faults ∧ (s.mapSched f).modes = s.modes ∧ (s.mapSched f).store = s.store
      ∧ (s.mapSched f).pending = s.pending :=
  ⟨rfl, rfl, rfl, rfl, rfl, rfl, rfl, rfl, rfl, rfl, rfl, rfl, rfl⟩

@[simp] theorem mapWater_blocks (s : State) (f : Water → Water) :
    (s.mapWater f).pins = s.pins ∧ (s.mapWater f).ports = s.ports ∧ (s.mapWater f).prog = s.prog
      ∧ (s.mapWater f).run = s.run ∧ (s.mapWater f).prompts = s.prompts ∧ (s.mapWater f).meas = s.meas
      ∧ (s.mapWater f).demand = s.demand ∧ (s.mapWater f).sched = s.sched ∧ (s.mapWater f).water = f s.water
      ∧ (s.mapWater f).faults = s.faults ∧ (s.mapWater f).modes = s.modes ∧ (s.mapWater f).store = s.store
      ∧ (s.mapWater f).pending = s.pending :=
  ⟨rfl, rfl, rfl, rfl, rfl, rfl, rfl, rfl, rfl, rfl, rfl, rfl, rfl⟩

@[simp] theorem mapFaults_blocks (s : State) (f : FaultUnit → FaultUnit) :
    (s.mapFaults f).pins = s.pins ∧ (s.mapFaults f).ports = s.ports ∧ (s.mapFaults f).prog = s.prog
      ∧ (s.mapFaults f).run = s.run ∧ (s.mapFaults f).prompts = s.prompts ∧ (s.mapFaults f).meas = s.meas
      ∧ (s.mapFaults f).demand = s.demand ∧ (s.mapFaults f).sched = s.sched ∧ (s.mapFaults f).water = s.water
      ∧ (s.mapFaults f).faults = f s.faults ∧ (s.mapFaults f).modes = s.modes ∧ (s.mapFaults f).store = s.store
      ∧ (s.mapFaults f).pending = s.pending :=
  ⟨rfl, rfl, rfl, rfl, rfl, rfl, rfl, rfl, rfl, rfl, rfl, rfl, rfl⟩

@[simp] theorem mapModes_blocks (s : State) (f : ModeCtl → ModeCtl) :
    (s.mapModes f).pins = s.pins ∧ (s.mapModes f).ports = s.ports ∧ (s.mapModes f).prog = s.prog
      ∧ (s.mapModes f).run = s.run ∧ (s.mapModes f).prompts = s.prompts ∧ (s.mapModes f).meas = s.meas
      ∧ (s.mapModes f).demand = s.demand ∧ (s.mapModes f).sched = s.sched ∧ (s.mapModes f).water = s.water
      ∧ (s.mapModes f).faults = s.faults ∧ (s.mapModes f).modes = f s.modes ∧ (s.mapModes f).store = s.store
      ∧ (s.mapModes f).pending = s.pending :=
  ⟨rfl, rfl, rfl, rfl, rfl, rfl, rfl, rfl, rfl, rfl, rfl, rfl, rfl⟩

@[simp] theorem mapStore_blocks (s : State) (f : StoreUnit → StoreUnit) :
    (s.mapStore f).pins = s.pins ∧ (s.mapStore f).ports = s.ports ∧ (s.mapStore f).prog = s.prog
      ∧ (s.mapStore f).run = s.run ∧ (s.mapStore f).prompts = s.prompts ∧ (s.mapStore f).meas = s.meas
      ∧ (s.mapStore f).demand = s.demand ∧ (s.mapStore f).sched = s.sched ∧ (s.mapStore f).water = s.water
      ∧ (s.mapStore f).faults = s.faults ∧ (s.mapStore f).modes = s.modes ∧ (s.mapStore f).store = f s.store
      ∧ (s.mapStore f).pending = s.pending :=
  ⟨rfl, rfl, rfl, rfl, rfl, rfl, rfl, rfl, rfl, rfl, rfl, rfl, rfl⟩

/-! ### Items of the small collections -/

@[simp] theorem PerPort.get_modify {α : Type} (x : PerPort α) (p q : Port) (f : α → α) :
    (x.modify p f).get q = if q = p then f (x.get q) else x.get q := by
  cases p <;> cases q <;> rfl

@[simp] theorem PerPort.get_map {α β : Type} (x : PerPort α) (f : α → β) (q : Port) : (x.map f).get q = f (x.get q) := by
  cases q <;> rfl

@[simp] theorem PerLoad.get_modify {α : Type} (x : PerLoad α) (l m : Load) (f : α → α) :
    (x.modify l f).get m = if m = l then f (x.get m) else x.get m := by
  cases l <;> cases m <;> rfl

@[simp] theorem PerLoad.get_map {α β : Type} (x : PerLoad α) (f : α → β) (l : Load) : (x.map f).get l = f (x.get l) := by
  cases l <;> rfl

@[simp] theorem PerLoad.get_zip {α β γ : Type} (x : PerLoad α) (y : PerLoad β) (f : α → β → γ) (l : Load) :
    (x.zip y f).get l = f (x.get l) (y.get l) := by
  cases l <;> rfl

@[simp] theorem PerChannel.get_modify {α : Type} (x : PerChannel α) (c d : Channel) (f : α → α) :
    (x.modify c f).get d = if d = c then f (x.get d) else x.get d := by
  cases c <;> cases d <;> rfl

@[simp] theorem PerChannel.get_map {α β : Type} (x : PerChannel α) (f : α → β) (c : Channel) :
    (x.map f).get c = f (x.get c) := by
  cases c <;> rfl

@[simp] theorem PerChannel.get_ofFun {α : Type} (f : Channel → α) (c : Channel) : (PerChannel.ofFun f).get c = f c := by
  cases c <;> rfl

/-! ### Items of one block -/

@[simp] theorem dropJudgement_fields (m : Meas) :
    m.dropJudgement.channels = m.channels ∧ m.dropJudgement.latest = m.latest ∧ m.dropJudgement.present = m.present
      ∧ m.dropJudgement.schedule = m.schedule ∧ m.dropJudgement.inProgress = m.inProgress
      ∧ m.dropJudgement.owed = { m.owed with judgement := false } :=
  ⟨rfl, rfl, rfl, rfl, rfl, rfl⟩

/-- One byte of a write being stored: held while there is room, and otherwise answered with NACK (R183). -/
theorem receive_storing (r : PortRec) (b : Byte) (hw : r.write = .storing) :
    PortRec.receive r b =
      if r.held.length < heldLimit then { r with held := r.held ++ [b] } else { r with nacked := true } := by
  simp [PortRec.receive, hw, acknowledges]

/-- What the bytes of a write leave in a receive buffer that holds no more than it may: the first 64, and the mark of a NACK exactly
where there were more. The response and the notices are as they were. -/
theorem foldl_receive (bytes : List Byte) (r : PortRec) (hw : r.write = .storing) (h : r.held.length ≤ heldLimit) :
    bytes.foldl PortRec.receive r =
      { r with
        held := (r.held ++ bytes).take heldLimit
        nacked := r.nacked || decide (heldLimit < r.held.length + bytes.length) } := by
  induction bytes generalizing r with
  | nil => simp [List.take_of_length_le h, Nat.not_lt.mpr h]
  | cons b bs ih =>
    by_cases hb : r.held.length < heldLimit
    · rw [List.foldl_cons, receive_storing r b hw, if_pos hb,
        ih { r with held := r.held ++ [b] } hw (by simp; omega)]
      simp [Nat.add_assoc, Nat.add_comm 1]
    · have hl : r.held.length = heldLimit := by omega
      rw [List.foldl_cons, receive_storing r b hw, if_neg hb, ih { r with nacked := true } hw h]
      simp [List.take_append_of_le_length (Nat.le_of_eq hl.symm), hl]

/-- Of a write that is not being stored, an abandoned one among them, nothing is stored (R196). -/
theorem foldl_receive_idle (bytes : List Byte) (r : PortRec) (hw : r.write ≠ .storing) :
    bytes.foldl PortRec.receive r = r := by
  induction bytes with
  | nil => rfl
  | cons b bs ih =>
    have hr : PortRec.receive r b = r := by
      cases h : r.write <;> simp_all [PortRec.receive]
    rw [List.foldl_cons, hr, ih]

theorem mem_loadsInOrder (l : Load) : l ∈ loadsInOrder := by cases l <;> decide

end Sys2Proof.Machine
end

