-- ==== Sys2Proof/Laws/Frames.lean ====
section
/-! SUPPORT. For each shared operation, the blocks of the state it leaves as they were. -/

namespace Sys2Proof.Machine

@[simp] theorem postAll_keeps (k : Notice) (s : State) :
    (postAll k s).pins = s.pins ∧ (postAll k s).prog = s.prog ∧ (postAll k s).run = s.run
      ∧ (postAll k s).prompts = s.prompts ∧ (postAll k s).meas = s.meas ∧ (postAll k s).demand = s.demand
      ∧ (postAll k s).sched = s.sched ∧ (postAll k s).water = s.water ∧ (postAll k s).faults = s.faults
      ∧ (postAll k s).modes = s.modes ∧ (postAll k s).store = s.store ∧ (postAll k s).pending = s.pending := by
  simp [postAll]

@[simp] theorem postTo_keeps (p : Port) (k : Notice) (s : State) :
    (postTo p k s).pins = s.pins ∧ (postTo p k s).prog = s.prog ∧ (postTo p k s).run = s.run
      ∧ (postTo p k s).prompts = s.prompts ∧ (postTo p k s).meas = s.meas ∧ (postTo p k s).demand = s.demand
      ∧ (postTo p k s).sched = s.sched ∧ (postTo p k s).water = s.water ∧ (postTo p k s).faults = s.faults
      ∧ (postTo p k s).modes = s.modes ∧ (postTo p k s).store = s.store ∧ (postTo p k s).pending = s.pending := by
  simp [postTo]

@[simp] theorem takeFrame_keeps (p : Port) (s : State) :
    (takeFrame p s).pins = s.pins ∧ (takeFrame p s).prog = s.prog ∧ (takeFrame p s).run = s.run
      ∧ (takeFrame p s).prompts = s.prompts ∧ (takeFrame p s).meas = s.meas ∧ (takeFrame p s).demand = s.demand
      ∧ (takeFrame p s).sched = s.sched ∧ (takeFrame p s).water = s.water ∧ (takeFrame p s).faults = s.faults
      ∧ (takeFrame p s).modes = s.modes ∧ (takeFrame p s).store = s.store ∧ (takeFrame p s).pending = s.pending := by
  simp [takeFrame]

@[simp] theorem respond_keeps (p : Port) (e : Byte) (st : Status) (pl : List Byte) (s : State) :
    (respond p e st pl s).pins = s.pins ∧ (respond p e st pl s).prog = s.prog ∧ (respond p e st pl s).run = s.run
      ∧ (respond p e st pl s).prompts = s.prompts ∧ (respond p e st pl s).meas = s.meas
      ∧ (respond p e st pl s).demand = s.demand ∧ (respond p e st pl s).sched = s.sched
      ∧ (respond p e st pl s).water = s.water ∧ (respond p e st pl s).faults = s.faults
      ∧ (respond p e st pl s).modes = s.modes ∧ (respond p e st pl s).store = s.store
      ∧ (respond p e st pl s).pending = s.pending := by
  simp [respond]

@[simp] theorem wakeRounds_keeps  (s : State) :
    (wakeRounds s).pins = s.pins ∧ (wakeRounds s).ports = s.ports ∧ (wakeRounds s).prog = s.prog
      ∧ (wakeRounds s).run = s.run ∧ (wakeRounds s).prompts = s.prompts ∧ (wakeRounds s).demand = s.demand
      ∧ (wakeRounds s).sched = s.sched ∧ (wakeRounds s).water = s.water ∧ (wakeRounds s).faults = s.faults
      ∧ (wakeRounds s).store = s.store ∧ (wakeRounds s).pending = s.pending := by
  simp [wakeRounds]

@[simp] theorem heard_keeps  (s : State) :
    (heard s).pins = s.pins ∧ (heard s).prog = s.prog ∧ (heard s).run = s.run ∧ (heard s).prompts = s.prompts
      ∧ (heard s).demand = s.demand ∧ (heard s).sched = s.sched ∧ (heard s).water = s.water
      ∧ (heard s).faults = s.faults ∧ (heard s).store = s.store ∧ (heard s).pending = s.pending := by
  unfold heard; cases s.modes.mode <;> simp

@[simp] theorem beginSave_keeps (r : Bool) (s : State) :
    (beginSave r s).pins = s.pins ∧ (beginSave r s).ports = s.ports ∧ (beginSave r s).prog = s.prog
      ∧ (beginSave r s).run = s.run ∧ (beginSave r s).prompts = s.prompts ∧ (beginSave r s).meas = s.meas
      ∧ (beginSave r s).demand = s.demand ∧ (beginSave r s).sched = s.sched ∧ (beginSave r s).water = s.water
      ∧ (beginSave r s).faults = s.faults ∧ (beginSave r s).modes = s.modes ∧ (beginSave r s).pending = s.pending := by
  simp [beginSave]

@[simp] theorem requestSave_keeps  (s : State) :
    (requestSave s).pins = s.pins ∧ (requestSave s).ports = s.ports ∧ (requestSave s).prog = s.prog
      ∧ (requestSave s).run = s.run ∧ (requestSave s).prompts = s.prompts ∧ (requestSave s).meas = s.meas
      ∧ (requestSave s).demand = s.demand ∧ (requestSave s).sched = s.sched ∧ (requestSave s).water = s.water
      ∧ (requestSave s).faults = s.faults ∧ (requestSave s).modes = s.modes ∧ (requestSave s).pending = s.pending := by
  unfold requestSave; cases s.store.flight <;> simp

@[simp] theorem closePrompt_keeps (p : Prompt) (o : PromptOutcome) (b : AnsweredBy) (s : State) :
    (closePrompt p o b s).pins = s.pins ∧ (closePrompt p o b s).prog = s.prog ∧ (closePrompt p o b s).run = s.run
      ∧ (closePrompt p o b s).meas = s.meas ∧ (closePrompt p o b s).demand = s.demand
      ∧ (closePrompt p o b s).sched = s.sched ∧ (closePrompt p o b s).water = s.water
      ∧ (closePrompt p o b s).faults = s.faults ∧ (closePrompt p o b s).modes = s.modes
      ∧ (closePrompt p o b s).store = s.store ∧ (closePrompt p o b s).pending = s.pending := by
  simp [closePrompt]

theorem withdrawList_keeps_all (l : List Prompt) :
    ∀ s : State, ∃ u v, withdrawList l s = (s.mapPrompts fun _ => u).mapPorts fun _ => v := by
  induction l with
  | nil => exact fun s => ⟨s.prompts, s.ports, rfl⟩
  | cons p ps ih =>
    intro s
    obtain ⟨u, v, h⟩ := ih (closePrompt p .withdrawn .nobody s)
    exact ⟨u, v, by simp only [withdrawList, h]; rfl⟩

@[simp] theorem withdrawList_keeps (l : List Prompt) (s : State) :
    (withdrawList l s).pins = s.pins ∧ (withdrawList l s).prog = s.prog ∧ (withdrawList l s).run = s.run
      ∧ (withdrawList l s).meas = s.meas ∧ (withdrawList l s).demand = s.demand ∧ (withdrawList l s).sched = s.sched
      ∧ (withdrawList l s).water = s.water ∧ (withdrawList l s).faults = s.faults ∧ (withdrawList l s).modes = s.modes
      ∧ (withdrawList l s).store = s.store ∧ (withdrawList l s).pending = s.pending := by
  obtain ⟨u, v, h⟩ := withdrawList_keeps_all l s
  rw [h]; simp

@[simp] theorem withdrawWhere_keeps (f : Prompt → Bool) (s : State) :
    (withdrawWhere f s).pins = s.pins ∧ (withdrawWhere f s).prog = s.prog ∧ (withdrawWhere f s).run = s.run
      ∧ (withdrawWhere f s).meas = s.meas ∧ (withdrawWhere f s).demand = s.demand
      ∧ (withdrawWhere f s).sched = s.sched ∧ (withdrawWhere f s).water = s.water
      ∧ (withdrawWhere f s).faults = s.faults ∧ (withdrawWhere f s).modes = s.modes
      ∧ (withdrawWhere f s).store = s.store ∧ (withdrawWhere f s).pending = s.pending := by
  unfold withdrawWhere; simp

@[simp] theorem addPrompt_keeps (k : PromptKind) (c : PromptSource) (n : Nat) (a : TimeoutAction) (s : State) :
    (addPrompt k c n a s).pins = s.pins ∧ (addPrompt k c n a s).prog = s.prog ∧ (addPrompt k c n a s).run = s.run
      ∧ (addPrompt k c n a s).meas = s.meas ∧ (addPrompt k c n a s).demand = s.demand
      ∧ (addPrompt k c n a s).sched = s.sched ∧ (addPrompt k c n a s).water = s.water
      ∧ (addPrompt k c n a s).faults = s.faults ∧ (addPrompt k c n a s).modes = s.modes
      ∧ (addPrompt k c n a s).store = s.store ∧ (addPrompt k c n a s).pending = s.pending := by
  simp [addPrompt]

@[simp] theorem raisePrompt_keeps (k : PromptKind) (c : PromptSource) (n : Nat) (a : TimeoutAction) (s : State) :
    (raisePrompt k c n a s).pins = s.pins ∧ (raisePrompt k c n a s).prog = s.prog
      ∧ (raisePrompt k c n a s).run = s.run ∧ (raisePrompt k c n a s).meas = s.meas
      ∧ (raisePrompt k c n a s).demand = s.demand ∧ (raisePrompt k c n a s).sched = s.sched
      ∧ (raisePrompt k c n a s).water = s.water ∧ (raisePrompt k c n a s).faults = s.faults
      ∧ (raisePrompt k c n a s).modes = s.modes ∧ (raisePrompt k c n a s).store = s.store
      ∧ (raisePrompt k c n a s).pending = s.pending := by
  simp [raisePrompt]

@[simp] theorem reportWithheld_keeps  (s : State) :
    (reportWithheld s).pins = s.pins ∧ (reportWithheld s).prog = s.prog ∧ (reportWithheld s).run = s.run
      ∧ (reportWithheld s).prompts = s.prompts ∧ (reportWithheld s).meas = s.meas ∧ (reportWithheld s).sched = s.sched
      ∧ (reportWithheld s).water = s.water ∧ (reportWithheld s).faults = s.faults ∧ (reportWithheld s).modes = s.modes
      ∧ (reportWithheld s).store = s.store ∧ (reportWithheld s).pending = s.pending := by
  unfold reportWithheld; split <;> simp

@[simp] theorem steamGateClosing_keeps  (s : State) :
    (steamGateClosing s).pins = s.pins ∧ (steamGateClosing s).prog = s.prog ∧ (steamGateClosing s).run = s.run
      ∧ (steamGateClosing s).prompts = s.prompts ∧ (steamGateClosing s).meas = s.meas
      ∧ (steamGateClosing s).water = s.water ∧ (steamGateClosing s).faults = s.faults
      ∧ (steamGateClosing s).modes = s.modes ∧ (steamGateClosing s).store = s.store
      ∧ (steamGateClosing s).pending = s.pending := by
  unfold steamGateClosing; split <;> simp

@[simp] theorem noteGate_keeps (b : Bool) (s : State) :
    (noteGate b s).pins = s.pins ∧ (noteGate b s).prog = s.prog ∧ (noteGate b s).run = s.run
      ∧ (noteGate b s).prompts = s.prompts ∧ (noteGate b s).meas = s.meas ∧ (noteGate b s).water = s.water
      ∧ (noteGate b s).faults = s.faults ∧ (noteGate b s).modes = s.modes ∧ (noteGate b s).store = s.store
      ∧ (noteGate b s).pending = s.pending := by
  unfold noteGate; split <;> [skip; split] <;> simp

@[simp] theorem noteScale_keeps (b : ScaleState) (s : State) :
    (noteScale b s).pins = s.pins ∧ (noteScale b s).prog = s.prog ∧ (noteScale b s).run = s.run
      ∧ (noteScale b s).prompts = s.prompts ∧ (noteScale b s).meas = s.meas ∧ (noteScale b s).water = s.water
      ∧ (noteScale b s).faults = s.faults ∧ (noteScale b s).modes = s.modes ∧ (noteScale b s).store = s.store
      ∧ (noteScale b s).pending = s.pending := by
  unfold noteScale; split <;> [skip; split] <;> simp

@[simp] theorem saveAccount_keeps  (s : State) :
    (saveAccount s).pins = s.pins ∧ (saveAccount s).ports = s.ports ∧ (saveAccount s).prog = s.prog
      ∧ (saveAccount s).run = s.run ∧ (saveAccount s).prompts = s.prompts ∧ (saveAccount s).meas = s.meas
      ∧ (saveAccount s).demand = s.demand ∧ (saveAccount s).sched = s.sched ∧ (saveAccount s).faults = s.faults
      ∧ (saveAccount s).modes = s.modes ∧ (saveAccount s).pending = s.pending := by
  simp [saveAccount]

@[simp] theorem accrueScale_keeps (v : Nat) (s : State) :
    (accrueScale v s).pins = s.pins ∧ (accrueScale v s).prog = s.prog ∧ (accrueScale v s).run = s.run
      ∧ (accrueScale v s).prompts = s.prompts ∧ (accrueScale v s).meas = s.meas ∧ (accrueScale v s).faults = s.faults
      ∧ (accrueScale v s).modes = s.modes ∧ (accrueScale v s).pending = s.pending := by
  unfold accrueScale; split <;> [(simp only []; split); skip] <;> simp

@[simp] theorem toIdle_keeps  (s : State) :
    (toIdle s).pins = s.pins ∧ (toIdle s).ports = s.ports ∧ (toIdle s).prog = s.prog ∧ (toIdle s).run = s.run
      ∧ (toIdle s).prompts = s.prompts ∧ (toIdle s).meas = s.meas ∧ (toIdle s).demand = s.demand
      ∧ (toIdle s).sched = s.sched ∧ (toIdle s).faults = s.faults ∧ (toIdle s).modes = s.modes
      ∧ (toIdle s).store = s.store ∧ (toIdle s).pending = s.pending := by
  simp [toIdle]

@[simp] theorem enterWaitTank_keeps  (s : State) :
    (enterWaitTank s).pins = s.pins ∧ (enterWaitTank s).prog = s.prog ∧ (enterWaitTank s).run = s.run
      ∧ (enterWaitTank s).meas = s.meas ∧ (enterWaitTank s).demand = s.demand ∧ (enterWaitTank s).sched = s.sched
      ∧ (enterWaitTank s).faults = s.faults ∧ (enterWaitTank s).modes = s.modes ∧ (enterWaitTank s).store = s.store
      ∧ (enterWaitTank s).pending = s.pending := by
  unfold enterWaitTank; simp only []; split <;> simp

@[simp] theorem beginAttempt_keeps  (s : State) :
    (beginAttempt s).pins = s.pins ∧ (beginAttempt s).prog = s.prog ∧ (beginAttempt s).run = s.run
      ∧ (beginAttempt s).meas = s.meas ∧ (beginAttempt s).demand = s.demand ∧ (beginAttempt s).sched = s.sched
      ∧ (beginAttempt s).faults = s.faults ∧ (beginAttempt s).modes = s.modes ∧ (beginAttempt s).store = s.store
      ∧ (beginAttempt s).pending = s.pending := by
  unfold beginAttempt; split <;> [skip; split] <;> simp

@[simp] theorem beginFill_keeps (p : Purpose) (s : State) :
    (beginFill p s).pins = s.pins ∧ (beginFill p s).prog = s.prog ∧ (beginFill p s).run = s.run
      ∧ (beginFill p s).meas = s.meas ∧ (beginFill p s).demand = s.demand ∧ (beginFill p s).sched = s.sched
      ∧ (beginFill p s).faults = s.faults ∧ (beginFill p s).modes = s.modes ∧ (beginFill p s).store = s.store
      ∧ (beginFill p s).pending = s.pending := by
  simp [beginFill]

@[simp] theorem fillNeedTest_keeps  (s : State) :
    (fillNeedTest s).pins = s.pins ∧ (fillNeedTest s).prog = s.prog ∧ (fillNeedTest s).run = s.run
      ∧ (fillNeedTest s).meas = s.meas ∧ (fillNeedTest s).demand = s.demand ∧ (fillNeedTest s).sched = s.sched
      ∧ (fillNeedTest s).faults = s.faults ∧ (fillNeedTest s).modes = s.modes ∧ (fillNeedTest s).store = s.store
      ∧ (fillNeedTest s).pending = s.pending := by
  unfold fillNeedTest; split <;> simp

@[simp] theorem requestStepFill_keeps  (s : State) :
    (requestStepFill s).pins = s.pins ∧ (requestStepFill s).prog = s.prog ∧ (requestStepFill s).run = s.run
      ∧ (requestStepFill s).meas = s.meas ∧ (requestStepFill s).demand = s.demand
      ∧ (requestStepFill s).sched = s.sched ∧ (requestStepFill s).faults = s.faults
      ∧ (requestStepFill s).modes = s.modes ∧ (requestStepFill s).store = s.store
      ∧ (requestStepFill s).pending = s.pending := by
  unfold requestStepFill; split <;> simp

@[simp] theorem withdrawRefill_keeps  (s : State) :
    (withdrawRefill s).pins = s.pins ∧ (withdrawRefill s).prog = s.prog ∧ (withdrawRefill s).run = s.run
      ∧ (withdrawRefill s).meas = s.meas ∧ (withdrawRefill s).demand = s.demand ∧ (withdrawRefill s).sched = s.sched
      ∧ (withdrawRefill s).water = s.water ∧ (withdrawRefill s).faults = s.faults ∧ (withdrawRefill s).modes = s.modes
      ∧ (withdrawRefill s).store = s.store ∧ (withdrawRefill s).pending = s.pending := by
  simp [withdrawRefill]

@[simp] theorem failAttempt_keeps  (s : State) :
    (failAttempt s).pins = s.pins ∧ (failAttempt s).prog = s.prog ∧ (failAttempt s).run = s.run
      ∧ (failAttempt s).meas = s.meas ∧ (failAttempt s).demand = s.demand ∧ (failAttempt s).sched = s.sched
      ∧ (failAttempt s).faults = s.faults ∧ (failAttempt s).modes = s.modes ∧ (failAttempt s).store = s.store
      ∧ (failAttempt s).pending = s.pending := by
  unfold failAttempt; simp only []; split <;> simp

@[simp] theorem coolTest_keeps (b : Option Int) (s : State) :
    (coolTest b s).pins = s.pins ∧ (coolTest b s).ports = s.ports ∧ (coolTest b s).prog = s.prog
      ∧ (coolTest b s).run = s.run ∧ (coolTest b s).prompts = s.prompts ∧ (coolTest b s).meas = s.meas
      ∧ (coolTest b s).demand = s.demand ∧ (coolTest b s).sched = s.sched ∧ (coolTest b s).faults = s.faults
      ∧ (coolTest b s).modes = s.modes ∧ (coolTest b s).store = s.store ∧ (coolTest b s).pending = s.pending := by
  unfold coolTest; split <;> simp

@[simp] theorem beginDrain_keeps (p : Purpose) (s : State) :
    (beginDrain p s).pins = s.pins ∧ (beginDrain p s).prog = s.prog ∧ (beginDrain p s).run = s.run
      ∧ (beginDrain p s).prompts = s.prompts ∧ (beginDrain p s).meas = s.meas ∧ (beginDrain p s).faults = s.faults
      ∧ (beginDrain p s).modes = s.modes ∧ (beginDrain p s).store = s.store ∧ (beginDrain p s).pending = s.pending := by
  simp [beginDrain]

@[simp] theorem beginWaiting_keeps  (s : State) :
    (beginWaiting s).pins = s.pins ∧ (beginWaiting s).prog = s.prog ∧ (beginWaiting s).run = s.run
      ∧ (beginWaiting s).prompts = s.prompts ∧ (beginWaiting s).meas = s.meas ∧ (beginWaiting s).faults = s.faults
      ∧ (beginWaiting s).modes = s.modes ∧ (beginWaiting s).store = s.store ∧ (beginWaiting s).pending = s.pending := by
  unfold beginWaiting; split <;> [(split <;> [skip; split]); skip] <;> simp

@[simp] theorem requestStepDrain_keeps  (s : State) :
    (requestStepDrain s).pins = s.pins ∧ (requestStepDrain s).prog = s.prog ∧ (requestStepDrain s).run = s.run
      ∧ (requestStepDrain s).prompts = s.prompts ∧ (requestStepDrain s).meas = s.meas
      ∧ (requestStepDrain s).faults = s.faults ∧ (requestStepDrain s).modes = s.modes
      ∧ (requestStepDrain s).store = s.store ∧ (requestStepDrain s).pending = s.pending := by
  simp [requestStepDrain]

@[simp] theorem requestAfterRunDrain_keeps  (s : State) :
    (requestAfterRunDrain s).pins = s.pins ∧ (requestAfterRunDrain s).prog = s.prog
      ∧ (requestAfterRunDrain s).run = s.run ∧ (requestAfterRunDrain s).prompts = s.prompts
      ∧ (requestAfterRunDrain s).meas = s.meas ∧ (requestAfterRunDrain s).faults = s.faults
      ∧ (requestAfterRunDrain s).modes = s.modes ∧ (requestAfterRunDrain s).store = s.store
      ∧ (requestAfterRunDrain s).pending = s.pending := by
  unfold requestAfterRunDrain; split <;> simp

@[simp] theorem afterIdle_keeps  (s : State) :
    (afterIdle s).pins = s.pins ∧ (afterIdle s).prog = s.prog ∧ (afterIdle s).run = s.run
      ∧ (afterIdle s).meas = s.meas ∧ (afterIdle s).faults = s.faults ∧ (afterIdle s).modes = s.modes
      ∧ (afterIdle s).store = s.store ∧ (afterIdle s).pending = s.pending := by
  simp [afterIdle]

@[simp] theorem concludeFill_keeps  (s : State) :
    (concludeFill s).pins = s.pins ∧ (concludeFill s).prog = s.prog ∧ (concludeFill s).run = s.run
      ∧ (concludeFill s).prompts = s.prompts ∧ (concludeFill s).meas = s.meas ∧ (concludeFill s).faults = s.faults
      ∧ (concludeFill s).pending = s.pending := by
  unfold concludeFill; simp only []; split <;> simp

@[simp] theorem refuseSteam_keeps  (s : State) :
    (refuseSteam s).pins = s.pins ∧ (refuseSteam s).prog = s.prog ∧ (refuseSteam s).run = s.run
      ∧ (refuseSteam s).prompts = s.prompts ∧ (refuseSteam s).meas = s.meas ∧ (refuseSteam s).faults = s.faults
      ∧ (refuseSteam s).modes = s.modes ∧ (refuseSteam s).store = s.store ∧ (refuseSteam s).pending = s.pending := by
  simp [refuseSteam]

@[simp] theorem frameWaterTest_keeps  (s : State) :
    (frameWaterTest s).pins = s.pins ∧ (frameWaterTest s).prog = s.prog ∧ (frameWaterTest s).run = s.run
      ∧ (frameWaterTest s).meas = s.meas ∧ (frameWaterTest s).faults = s.faults ∧ (frameWaterTest s).modes = s.modes
      ∧ (frameWaterTest s).store = s.store ∧ (frameWaterTest s).pending = s.pending := by
  unfold frameWaterTest; split <;> [(simp only []; split); skip] <;> simp

@[simp] theorem stopOperation_keeps (s : State) :
    (stopOperation s).pins = s.pins ∧ (stopOperation s).prog = s.prog ∧ (stopOperation s).run = s.run
      ∧ (stopOperation s).meas = s.meas ∧ (stopOperation s).demand = s.demand ∧ (stopOperation s).sched = s.sched
      ∧ (stopOperation s).faults = s.faults ∧ (stopOperation s).modes = s.modes ∧ (stopOperation s).store = s.store
      ∧ (stopOperation s).pending = s.pending := by
  unfold stopOperation; split <;> simp

@[simp] theorem setRinseOwed_keeps (v : Bool) (s : State) :
    (setRinseOwed v s).pins = s.pins ∧ (setRinseOwed v s).prog = s.prog ∧ (setRinseOwed v s).run = s.run
      ∧ (setRinseOwed v s).prompts = s.prompts ∧ (setRinseOwed v s).meas = s.meas
      ∧ (setRinseOwed v s).faults = s.faults ∧ (setRinseOwed v s).modes = s.modes ∧ (setRinseOwed v s).store = s.store
      ∧ (setRinseOwed v s).pending = s.pending := by
  unfold setRinseOwed; simp only []; split <;> [skip; split] <;> simp

@[simp] theorem descaleCompletion_keeps  (s : State) :
    (descaleCompletion s).pins = s.pins ∧ (descaleCompletion s).prog = s.prog ∧ (descaleCompletion s).run = s.run
      ∧ (descaleCompletion s).prompts = s.prompts ∧ (descaleCompletion s).meas = s.meas
      ∧ (descaleCompletion s).demand = s.demand ∧ (descaleCompletion s).sched = s.sched
      ∧ (descaleCompletion s).faults = s.faults ∧ (descaleCompletion s).modes = s.modes
      ∧ (descaleCompletion s).pending = s.pending := by
  unfold descaleCompletion; simp only []; split <;> simp

@[simp] theorem rinseCompletion_keeps  (s : State) :
    (rinseCompletion s).pins = s.pins ∧ (rinseCompletion s).prog = s.prog ∧ (rinseCompletion s).run = s.run
      ∧ (rinseCompletion s).prompts = s.prompts ∧ (rinseCompletion s).meas = s.meas
      ∧ (rinseCompletion s).demand = s.demand ∧ (rinseCompletion s).sched = s.sched
      ∧ (rinseCompletion s).faults = s.faults ∧ (rinseCompletion s).modes = s.modes
      ∧ (rinseCompletion s).pending = s.pending := by
  simp [rinseCompletion]

@[simp] theorem cutLoads_keeps  (s : State) :
    (cutLoads s).pins = s.pins ∧ (cutLoads s).ports = s.ports ∧ (cutLoads s).prog = s.prog ∧ (cutLoads s).run = s.run
      ∧ (cutLoads s).prompts = s.prompts ∧ (cutLoads s).meas = s.meas ∧ (cutLoads s).water = s.water
      ∧ (cutLoads s).faults = s.faults ∧ (cutLoads s).modes = s.modes ∧ (cutLoads s).store = s.store
      ∧ (cutLoads s).pending = s.pending := by
  simp [cutLoads]

@[simp] theorem holdOutputs_keeps  (s : State) :
    (holdOutputs s).pins = s.pins ∧ (holdOutputs s).ports = s.ports ∧ (holdOutputs s).prog = s.prog
      ∧ (holdOutputs s).run = s.run ∧ (holdOutputs s).prompts = s.prompts ∧ (holdOutputs s).meas = s.meas
      ∧ (holdOutputs s).water = s.water ∧ (holdOutputs s).faults = s.faults ∧ (holdOutputs s).store = s.store
      ∧ (holdOutputs s).pending = s.pending := by
  simp [holdOutputs]

@[simp] theorem coolingFan_keeps (c : Option Int) (s : State) :
    (coolingFan c s).pins = s.pins ∧ (coolingFan c s).ports = s.ports ∧ (coolingFan c s).prog = s.prog
      ∧ (coolingFan c s).run = s.run ∧ (coolingFan c s).prompts = s.prompts ∧ (coolingFan c s).meas = s.meas
      ∧ (coolingFan c s).demand = s.demand ∧ (coolingFan c s).sched = s.sched ∧ (coolingFan c s).water = s.water
      ∧ (coolingFan c s).faults = s.faults ∧ (coolingFan c s).store = s.store ∧ (coolingFan c s).pending = s.pending := by
  unfold coolingFan; split <;> simp

@[simp] theorem leaveAfterRun_keeps  (s : State) :
    (leaveAfterRun s).pins = s.pins ∧ (leaveAfterRun s).prog = s.prog ∧ (leaveAfterRun s).run = s.run
      ∧ (leaveAfterRun s).prompts = s.prompts ∧ (leaveAfterRun s).meas = s.meas ∧ (leaveAfterRun s).demand = s.demand
      ∧ (leaveAfterRun s).sched = s.sched ∧ (leaveAfterRun s).water = s.water ∧ (leaveAfterRun s).faults = s.faults
      ∧ (leaveAfterRun s).store = s.store ∧ (leaveAfterRun s).pending = s.pending := by
  unfold leaveAfterRun; split <;> simp

@[simp] theorem enterAfterRun_keeps (d : Bool) (s : State) :
    (enterAfterRun d s).pins = s.pins ∧ (enterAfterRun d s).prog = s.prog ∧ (enterAfterRun d s).run = s.run
      ∧ (enterAfterRun d s).prompts = s.prompts ∧ (enterAfterRun d s).faults = s.faults
      ∧ (enterAfterRun d s).store = s.store ∧ (enterAfterRun d s).pending = s.pending := by
  unfold enterAfterRun; simp only []; split <;> split <;> split <;> simp

@[simp] theorem enterStandby_keeps  (s : State) :
    (enterStandby s).pins = s.pins ∧ (enterStandby s).prog = s.prog ∧ (enterStandby s).run = s.run
      ∧ (enterStandby s).prompts = s.prompts ∧ (enterStandby s).demand = s.demand ∧ (enterStandby s).sched = s.sched
      ∧ (enterStandby s).water = s.water ∧ (enterStandby s).faults = s.faults ∧ (enterStandby s).store = s.store
      ∧ (enterStandby s).pending = s.pending := by
  simp [enterStandby]

@[simp] theorem enterActive_keeps (d : Bool) (s : State) :
    (enterActive d s).pins = s.pins ∧ (enterActive d s).prog = s.prog ∧ (enterActive d s).run = s.run
      ∧ (enterActive d s).prompts = s.prompts ∧ (enterActive d s).meas = s.meas ∧ (enterActive d s).demand = s.demand
      ∧ (enterActive d s).sched = s.sched ∧ (enterActive d s).water = s.water ∧ (enterActive d s).faults = s.faults
      ∧ (enterActive d s).store = s.store ∧ (enterActive d s).pending = s.pending := by
  unfold enterActive; simp only []; split <;> simp

@[simp] theorem frameStart_keeps  (s : State) :
    (frameStart s).pins = s.pins ∧ (frameStart s).prog = s.prog ∧ (frameStart s).run = s.run
      ∧ (frameStart s).meas = s.meas ∧ (frameStart s).faults = s.faults ∧ (frameStart s).store = s.store
      ∧ (frameStart s).pending = s.pending := by
  unfold frameStart; simp only []; split <;> split <;> simp

@[simp] theorem restart_keeps  (s : State) :
    (restart s).pins = s.pins ∧ (restart s).prog = s.prog ∧ (restart s).run = s.run ∧ (restart s).meas = s.meas
      ∧ (restart s).faults = s.faults ∧ (restart s).store = s.store ∧ (restart s).pending = s.pending := by
  unfold restart; split <;> simp

end Sys2Proof.Machine
end

