-- ==== Sys2Proof/Laws/PerInstr.lean ====
section
/-! SUPPORT. Facts about the commands as syntax, one lemma per constructor: the frame a well-formed command is sent in passes the
form checks of R184, a form-check failure carries bytes that fail them, and the other rows come from no frame. -/

namespace Sys2Proof.Laws.WireOrEvent

open Sys2Proof.Machine

/-- A well-formed command is sent in a frame that passes the form checks, a form-check failure stands for its own bytes. -/
def Statement (i : Instr) : Prop :=
  ∀ (p : Port) (bytes : List Byte), i.wf = true → frameOf i = some (p, bytes) →
    (∃ code params, bytes = frameBytes code params ∧ formCheck bytes = none)
      ∨ (i = .formCheckFailure p bytes ∧ bytes ≠ [] ∧ formCheck bytes ≠ none)

/-- A command sent in a given frame, well formed or not. -/
theorem of_frame {i : Instr} {p : Port} {code : Byte} {params : List Byte}
    (h : frameOf i = some (p, frameBytes code params)) (hf : formCheck (frameBytes code params) = none) :
    Statement i := by
  intro q bytes _ hq
  rw [h] at hq
  obtain ⟨rfl, rfl⟩ := Prod.mk.inj (Option.some.inj hq)
  exact .inl ⟨code, params, rfl, hf⟩

/-- A row that no frame brings. -/
theorem of_event {i : Instr} (h : frameOf i = none) : Statement i := by
  intro q bytes _ hq
  rw [h] at hq
  cases hq

/-- The parameters of a RECIPE_STORE of up to 60 characters are of a length the table allows. -/
theorem recipeStore_lengths (n : Nat) (h : n ≤ 60) : n + 2 ∈ (List.range 61).map (· + 2) :=
  List.mem_map.2 ⟨n, List.mem_range.2 (by omega), rfl⟩

theorem getStatus (p : Port) : Statement (.getStatus p) := of_frame rfl rfl

theorem getRun (p : Port) : Statement (.getRun p) := of_frame rfl rfl

theorem getStep (p : Port) (index : Byte) : Statement (.getStep p index) := of_frame rfl rfl

theorem getSensors (p : Port) : Statement (.getSensors p) := of_frame rfl rfl

theorem getLoads (p : Port) : Statement (.getLoads p) := of_frame rfl rfl

theorem getWater (p : Port) : Statement (.getWater p) := of_frame rfl rfl

theorem getFault (p : Port) : Statement (.getFault p) := of_frame rfl rfl

theorem getPrompts (p : Port) : Statement (.getPrompts p) := of_frame rfl rfl

theorem getNotices (p : Port) : Statement (.getNotices p) := of_frame rfl rfl

theorem recipeRead (p : Port) (slot part : Byte) : Statement (.recipeRead p slot part) := of_frame rfl rfl

theorem programPutStep (p : Port) (index : Byte) (record : StepWire) : Statement (.programPutStep p index record) := by
  intro q bytes hw hq
  obtain ⟨rfl, rfl⟩ := Prod.mk.inj (Option.some.inj hq)
  refine .inl ⟨0x10, index :: stepBytesOf record, rfl, ?_⟩
  obtain ⟨k, parts, m, sp, st, f, d, pk, t, a, guards⟩ := record
  have hg : guards.length ≤ 4 := by simpa [Instr.wf] using hw
  match guards, hg with
  | [], _ => rfl
  | [_], _ => rfl
  | [_, _], _ => rfl
  | [_, _, _], _ => rfl
  | [_, _, _, _], _ => rfl

theorem programClear (p : Port) : Statement (.programClear p) := of_frame rfl rfl

theorem programLoad (p : Port) (slot : Byte) : Statement (.programLoad p slot) := of_frame rfl rfl

theorem start (p : Port) (options : Byte) : Statement (.start p options) := of_frame rfl rfl

theorem pause (p : Port) : Statement (.pause p) := of_frame rfl rfl

theorem resume (p : Port) : Statement (.resume p) := of_frame rfl rfl

theorem stop (p : Port) : Statement (.stop p) := of_frame rfl rfl

theorem adjust (p : Port) (index field : Byte) (value : Half) : Statement (.adjust p index field value) := of_frame rfl rfl

theorem skip (p : Port) (index : Byte) : Statement (.skip p index) := of_frame rfl rfl

theorem optSet (p : Port) (options : Byte) : Statement (.optSet p options) := of_frame rfl rfl

theorem optClear (p : Port) (options : Byte) : Statement (.optClear p options) := of_frame rfl rfl

theorem optToggle (p : Port) (options : Byte) : Statement (.optToggle p options) := of_frame rfl rfl

theorem answer (p : Port) (id ans : Byte) : Statement (.answer p id ans) := of_frame rfl rfl

theorem consentArm (p : Port) : Statement (.consentArm p) := of_frame rfl rfl

theorem consentDrop (p : Port) : Statement (.consentDrop p) := of_frame rfl rfl

theorem clearFault (p : Port) : Statement (.clearFault p) := of_frame rfl rfl

theorem descaleStart (p : Port) : Statement (.descaleStart p) := of_frame rfl rfl

theorem rinseStart (p : Port) : Statement (.rinseStart p) := of_frame rfl rfl

theorem setHardness (p : Port) (hardness : Half) : Statement (.setHardness p hardness) := of_frame rfl rfl

theorem setBudget (p : Port) (mode : Byte) (floor : Half) (manual : Option Half) : Statement (.setBudget p mode floor manual) := by
  cases manual with
  | none => exact of_frame rfl rfl
  | some v => exact of_frame rfl rfl

theorem standby (p : Port) : Statement (.standby p) := of_frame rfl rfl

theorem reset (p : Port) : Statement (.reset p) := of_frame rfl rfl

theorem recipeStore (p : Port) (slot category : Byte) (name : List Byte) : Statement (.recipeStore p slot category name) := by
  intro q bytes hw hq
  obtain ⟨rfl, rfl⟩ := Prod.mk.inj (Option.some.inj hq)
  have hn : name.length ≤ 60 := by simpa [Instr.wf] using hw
  refine .inl ⟨0x50, slot :: category :: name, rfl, ?_⟩
  have hk : (BitVec.ofNat 8 (name.length + 2)).toNat = name.length + 2 := by
    simp only [BitVec.toNat_ofNat]
    omega
  have hm := recipeStore_lengths name.length hn
  have hc : allowedLengths 0x50 = some ((List.range 61).map (· + 2)) := rfl
  simp only [frameBytes, formCheck, List.length_cons, hk, hc]
  rw [if_neg (by omega), if_pos hm]

theorem recipeErase (p : Port) (slot : Byte) : Statement (.recipeErase p slot) := of_frame rfl rfl

theorem elementConfig (p : Port) (entry : Byte) (ratedW : Half) (enabled rampStep : Byte) : Statement (.elementConfig p entry ratedW enabled rampStep) := of_frame rfl rfl

theorem setSupply (p : Port) (limit : Half) (volts scan : Byte) : Statement (.setSupply p limit volts scan) := of_frame rfl rfl

theorem setCal (p : Port) (channel offset : Byte) : Statement (.setCal p channel offset) := of_frame rfl rfl

theorem scaleSet (p : Port) (mg : Half) : Statement (.scaleSet p mg) := of_frame rfl rfl

theorem setScaleLimit (p : Port) (mg : Half) : Statement (.setScaleLimit p mg) := of_frame rfl rfl

theorem setFillRetries (p : Port) (retries : Byte) : Statement (.setFillRetries p retries) := of_frame rfl rfl

theorem formCheckFailure (p : Port) (bytes : List Byte) : Statement (.formCheckFailure p bytes) := by
  intro q b hw hq
  obtain ⟨rfl, rfl⟩ := Prod.mk.inj (Option.some.inj hq)
  refine .inr ⟨rfl, ?_, ?_⟩
  · rintro rfl
    cases hw
  · intro hb
    rw [Instr.wf, hb] at hw
    simp at hw

theorem writeDiscard (p : Port) : Statement (.writeDiscard p) := of_event rfl

theorem powerOnReset (pins : Pins) : Statement (.powerOnReset pins) := of_event rfl

theorem lineReset : Statement .lineReset := of_event rfl

theorem doorOpens : Statement .doorOpens := of_event rfl

theorem doorCloses : Statement .doorCloses := of_event rfl

theorem tankChange (present : Bool) (level : TankLevel) : Statement (.tankChange present level) := of_event rfl

theorem boilerLevelChange (level : BoilerLevel) : Statement (.boilerLevelChange level) := of_event rfl

theorem flowPulse : Statement .flowPulse := of_event rfl

theorem fillVolumeLimit : Statement .fillVolumeLimit := of_event rfl

theorem fillTimeLimit : Statement .fillTimeLimit := of_event rfl

theorem verifyEnd : Statement .verifyEnd := of_event rfl

theorem retryWaitEnd : Statement .retryWaitEnd := of_event rfl

theorem tankWaitEnd : Statement .tankWaitEnd := of_event rfl

theorem drainPassEnd : Statement .drainPassEnd := of_event rfl

theorem fillFailed : Statement .fillFailed := of_event rfl

theorem drainFailed : Statement .drainFailed := of_event rfl

theorem runSecondTick : Statement .runSecondTick := of_event rfl

theorem preheatTimeout : Statement .preheatTimeout := of_event rfl

theorem cookDurationEnd : Statement .cookDurationEnd := of_event rfl

theorem restEnd : Statement .restEnd := of_event rfl

theorem soakEnd : Statement .soakEnd := of_event rfl

theorem flushHoldEnd : Statement .flushHoldEnd := of_event rfl

theorem keepWarmEnd : Statement .keepWarmEnd := of_event rfl

theorem doorHeldLimit : Statement .doorHeldLimit := of_event rfl

theorem pauseTimeout : Statement .pauseTimeout := of_event rfl

theorem promptCountdown (id : Nat) : Statement (.promptCountdown id) := of_event rfl

theorem promptTimeout (id : Nat) : Statement (.promptTimeout id) := of_event rfl

theorem roundBegin : Statement .roundBegin := of_event rfl

theorem roundComplete (counts : RoundCounts) : Statement (.roundComplete counts) := of_event rfl

theorem roundRunJudgement : Statement .roundRunJudgement := of_event rfl

theorem probeSensorClosure : Statement .probeSensorClosure := of_event rfl

theorem faultRoundTest : Statement .faultRoundTest := of_event rfl

theorem budgetRecompute : Statement .budgetRecompute := of_event rfl

theorem drainCoolTest : Statement .drainCoolTest := of_event rfl

theorem modeRoundUpdate : Statement .modeRoundUpdate := of_event rfl

theorem idleTimeout : Statement .idleTimeout := of_event rfl

theorem slotStart : Statement .slotStart := of_event rfl

theorem frameComplete : Statement .frameComplete := of_event rfl

theorem storeWriteComplete (pass : Bool) : Statement (.storeWriteComplete pass) := of_event rfl

theorem saveComplete (pass : Bool) : Statement (.saveComplete pass) := of_event rfl

theorem idleTimerCountdown : Statement .idleTimerCountdown := of_event rfl

end Sys2Proof.Laws.WireOrEvent
end

