-- ==== Sys2Proof/Tests/Slice0.lean ====
section
/-! SUPPORT. Tests: ill-formed terms that WellFormed refuses, the worked cases of the manual, and for every statement with
hypotheses a state and operands that meet them. Expected figures are the manual's; each test names the place. -/

namespace Sys2Proof.Tests

open Sys2Proof Sys2Proof.Machine

/-! ### Helpers -/

/-- A property of the state that a command leaves. -/
def leaves (c : Instr) (s : State) (f : State → Bool) : Bool :=
  match exec c s with
  | .next t => f t
  | .fault _ => false
  | .refused _ => false

/-- READY with fresh readings. -/
def ready : State :=
  { State.reset with modes := { State.reset.modes with mode := .ready, idle := some 600, fresh := true } }

/-- A channel that publishes a value. -/
def channelAt (t : Int) : ChannelRec :=
  { condition := .valid, resistance := some 10000, window := some { w0 := t, w1 := t, w2 := t, w3 := t },
    newestMark := false, offset := 0 }

/-- The heating of the worked cases: COMBI 1800, steam 30, fan 60. -/
def combi : Heat := { mode := .combi, setpoint := 1800, steam := 30, fan := 60 }

def combiCook : Machine.Step :=
  .cook combi (some 2400) [{ sensor := .probe, test := .atLeast 720 }, { sensor := .cav, test := .near 1800 50 }]

/-- A COOK run in RUNNING at step i of a program, in a running frame. -/
def cooking (steps : List Machine.Step) (i : Nat) : State :=
  { ready with
    pins := { ready.pins with boilerLevel := .wet }
    prog := { steps := steps, origin := .edited }
    run := { ready.run with kind := .cook, state := .running, stepIdx := i, startedBy := some .panel }
    modes := { ready.modes with mode := .active, idle := none }
    water := { ready.water with rinseOwed := false }
    sched := { ready.sched with frameRunning := true } }

/-- A DESCALE run in RUNNING at a step. -/
def descaling (i : Nat) (part : Option FlushPart) : State :=
  { cooking [] i with run := { (cooking [] i).run with kind := .descale, flushPart := part } }

/-- The three temperatures published at a frame start of a worked case. -/
def publishing (cav vent boil : Int) (s : State) : State :=
  { s with
    meas := { s.meas with
      channels := { cav := channelAt cav, vent := channelAt vent, probe := ChannelRec.atReset, boil := channelAt boil } } }

/-! ### Ill-formed terms are refused -/

def aGuard : GuardWire := { sensor := 3, option := 2, t1 := 720, t2 := 0x8000 }

/-- Command 2 of the worked example "building a program": COOK, COMBI, 1800, steam 95, fan 60, 2400 s, PROBE AT_LEAST 720. -/
def cookWire (guards : List GuardWire) : StepWire :=
  { kind := 2, parts := 0x2F, mode := 7, setpoint := 1800, steam := 95, fan := 60, duration := 2400, promptKind := 0,
    timeout := 0, action := 0, guards := guards }

theorem test_wf_refuses_five_guards :
    (Instr.programPutStep .panel 0 (cookWire [aGuard, aGuard, aGuard, aGuard, aGuard])).wf = false
      ∧ (Instr.programPutStep .panel 0 (cookWire [aGuard, aGuard, aGuard, aGuard])).wf = true := by decide

theorem test_wf_refuses_a_name_of_61 :
    (Instr.recipeStore .panel 8 1 (List.replicate 61 65)).wf = false
      ∧ (Instr.recipeStore .panel 8 1 (List.replicate 60 65)).wf = true := by decide

theorem test_wf_refuses_an_empty_failure : (Instr.formCheckFailure .link []).wf = false := by decide

theorem test_wf_refuses_a_passing_frame :
    (Instr.formCheckFailure .link [0x01, 0x00]).wf = false ∧ (Instr.formCheckFailure .link [0x01, 0x01]).wf = true := by
  decide

theorem test_wf_refuses_no_prompt_id :
    (Instr.promptCountdown 0).wf = false ∧ (Instr.promptTimeout 256).wf = false ∧ (Instr.promptTimeout 255).wf = true := by
  decide

/-! ### Frames (12.2, 12.6, R192, R193) -/

/-- PROGRAM_PUT_STEP of command 2 of "building a program", byte by byte. -/
theorem test_frame_of_put_step :
    ofFrame .panel
        [0x10, 20, 1, 2, 0x2F, 7, 0x08, 0x07, 95, 60, 0x60, 0x09, 0, 0, 0, 0, 3, 2, 0xD0, 0x02, 0x00, 0x80]
      = some (.programPutStep .panel 1 (cookWire [aGuard])) := by decide

/-- One frame for each family of commands. -/
theorem test_frames_of_the_families :
    ofFrame .link [0x01, 0] = some (.getStatus .link)
      ∧ ofFrame .panel [0x0A, 2, 3, 0xFF] = some (.recipeRead .panel 3 0xFF)
      ∧ ofFrame .panel [0x24, 4, 1, 1, 0x08, 0x07] = some (.adjust .panel 1 1 1800)
      ∧ ofFrame .service [0x60, 5, 4, 0x08, 0x07, 1, 8] = some (.elementConfig .service 4 1800 1 8)
      ∧ ofFrame .panel [0x44, 3, 2, 0xE8, 0x03] = some (.setBudget .panel 2 1000 none)
      ∧ ofFrame .panel [0x44, 5, 2, 0xE8, 0x03, 0x84, 0x03] = some (.setBudget .panel 2 1000 (some 900))
      ∧ ofFrame .link [0x7E, 0] = some (.formCheckFailure .link [0x7E, 0])
      ∧ ofFrame .link [] = none := by decide

/-! ### Conversions (Worked conversions, 4.3 and 4.4) -/

theorem test_conversions_of_the_platinum_channels :
    convert .cav 40000 28883 = { condition := .valid, resistance := some 13849, reading := some (999, false) }
      ∧ convert .cav 40000 44444 = { condition := .valid, resistance := some 9000, reading := some (-253, false) }
      ∧ convert .vent 40000 800000 = { condition := .valid, resistance := some 500, reading := some (-500, true) }
      ∧ convert .vent 40000 900000 = { condition := .short, resistance := some 444, reading := none }
      ∧ convert .cav 40000 15 = { condition := .opened, resistance := none, reading := none }
      ∧ convert .cav 19874 28883 = { condition := .reference, resistance := none, reading := none } := by decide +kernel

theorem test_conversions_of_the_ntc_channels :
    convert .probe 40000 222222 = { condition := .valid, resistance := some 18000, reading := some (713, false) }
      ∧ convert .boil 40000 571000 = { condition := .valid, resistance := some 7005, reading := some (999, false) }
      ∧ convert .boil 40000 2100000 = { condition := .valid, resistance := some 1905, reading := some (1500, true) }
      ∧ convert .boil 40000 25000000 = { condition := .short, resistance := some 160, reading := none }
      ∧ convert .probe 40000 41 = { condition := .valid, resistance := some 97560976, reading := some (-200, true) }
      ∧ convert .probe 40000 40 = { condition := .opened, resistance := none, reading := none } := by decide +kernel

/-- Worked sequence "the CAV window through a fault", rounds 1, 4, 5 and 6; R76's mean of exactly -2.5. -/
theorem test_means_round_away_from_zero :
    meanOfFour 7177 = 1794 ∧ meanOfFour 7206 = 1802 ∧ meanOfFour 7211 = 1803 ∧ meanOfFour 7218 = 1805
      ∧ meanOfFour (-10) = -3 := by decide

/-- The window of round 6 of that sequence. -/
theorem test_window_shifts :
    pushReading (some { w0 := 1801, w1 := 1801, w2 := 1803, w3 := 1806 }) 1808
      = { w0 := 1801, w1 := 1803, w2 := 1806, w3 := 1808 } := by decide

/-! ### Guards (worked example "judging two guards", rounds 4 and 5) -/

theorem test_guards_of_the_worked_example :
    (GuardTest.atLeast 720).holds 721 = true ∧ (GuardTest.near 1800 50).holds 1856 = false
      ∧ (GuardTest.near 1800 50).holds 1849 = true ∧ (GuardTest.atLeast 720).holds 704 = false := by decide

/-! ### Demand (Worked cases of chapter 5) -/

/-- The COMBI frame: RING 19, BOILER 12, fan 60. -/
theorem test_combi_frame_requests :
    (demandAtFrame (publishing 1780 972 1000 (cooking [combiCook] 0))).requests
        = { ring := 19, top := 0, bottom := 0, grill := 0, boiler := 12 }
      ∧ (demandAtFrame (publishing 1780 972 1000 (cooking [combiCook] 0))).fanDuty = 60 := by decide +kernel

/-- Its saturation trim twenty seconds later: RING 12, BOILER 6, still ADMITTED. -/
theorem test_combi_frame_trimmed :
    (demandAtFrame (publishing 1796 993 1002 (cooking [combiCook] 0))).requests
        = { ring := 12, top := 0, bottom := 0, grill := 0, boiler := 6 }
      ∧ (demandAtFrame (publishing 1796 993 1002 (cooking [combiCook] 0))).steam = .admitted := by decide +kernel

/-- PREHEAT CONVECT 2000 with FAST_PREHEAT at CAV 220: demand 100, RING 40, TOP 20, GRILL 20. -/
theorem test_fast_preheat_requests :
    let s := publishing 220 220 220 (cooking [.preheat { mode := .convect, setpoint := 2000, steam := 0, fan := 70 }] 0)
    let d := demandAtFrame { s with run := { s.run with options := { s.run.options with fastPreheat := true } } }
    d.cavityDemand = some 100 ∧ d.requests = { ring := 40, top := 20, bottom := 0, grill := 20, boiler := 0 }
      ∧ d.steam = .notSteaming ∧ d.fastApplied = true := by decide +kernel

/-- Frame 3 of "pure steam, pre-boil to trim": demand 39, RING 6, BOILER 20. -/
theorem test_pure_steam_trimmed :
    let s := publishing 980 995 1001 (cooking [.cook { mode := .steam, setpoint := 1000, steam := 100, fan := 40 } (some 60) []] 0)
    (demandAtFrame s).cavityDemand = some 39
      ∧ (demandAtFrame s).requests = { ring := 6, top := 0, bottom := 0, grill := 0, boiler := 20 } := by decide +kernel

/-! ### The rotation (Worked frame "COMBI with steam", "the hob turns on", the table of R114) -/

/-- The rotation table of the worked frame at slot n with RING and BOILER owing these slots. -/
def rotation (ring boiler : Nat) : PerLoad Entry :=
  let e := ready.sched.entries
  { e with ring := { e.ring with remaining := ring }, boiler := { e.boiler with remaining := boiler } }

/-- Slot 0 goes to RING with 1,485 W left, slot 1 to BOILER with 1,685 W left. -/
theorem test_walk_of_slots_0_and_1 :
    ((walk (rotation 19 12) 3600 true true 0).entries.ring.on = true
        ∧ (walk (rotation 19 12) 3600 true true 0).entries.boiler.on = false
        ∧ (walk (rotation 19 12) 3600 true true 0).headroom = 1485)
      ∧ (walk (rotation 18 12) 3600 true true 1).entries.boiler.on = true
      ∧ (walk (rotation 18 12) 3600 true true 1).headroom = 1685 := by decide +kernel

/-- "two large loads and the urgent pass": at slot 19 RING owes 21 with 21 slots left and goes first. -/
theorem test_walk_takes_the_urgent_first :
    (walk (rotation 21 10) 3600 true true 19).entries.ring.on = true
      ∧ (walk (rotation 20 10) 3600 true true 19).entries.boiler.on = true := by decide +kernel

/-- The five lines of the table of R114. -/
theorem test_budget_table :
    let u := ready.sched
    let line (v : Sched) (supply : Nat) (eco : Bool) : Nat × Nat :=
      let w := v.recompute supply (v.inputs eco)
      (w.foreign, w.computed)
    line { u with prevW := 1900, curW := 1900 } 3335 false = (1435, 2165)
      ∧ line { u with prevW := 2000, curW := 2000 } 1750 false = (0, 3600)
      ∧ line u 3185 false = (3185, 1000) ∧ line u 100 true = (100, 2000)
      ∧ line { u with mode := .manual, manual := some 900 } 3185 false = (3185, 900) := by decide +kernel

/-- Slot 21 of "the hob turns on", with RING on. -/
def hobSlot : State :=
  let s := cooking [combiCook] 0
  let u : Sched := { s.sched with
    limit := 3700, slot := 21, slotStarted := true, prevW := 2000, curW := 2000
    entries := { s.sched.entries with
      ring := { s.sched.entries.ring with on := true, remaining := 9, granted := 10, slotRated := 2000 } } }
  { s with
    sched := u
    meas := { s.meas with
      supplyW := 4500, owed := { s.meas.owed with budget := true }
      latest := { s.meas.latest with budget := u.inputs false } } }

/-- Event 2 of "the hob turns on": RING is shed with its slot given back, and the budget falls to 1,200. -/
theorem test_shed_of_the_hob :
    leaves .budgetRecompute hobSlot (fun t =>
      t.sched.entries.ring.on = false && t.sched.entries.ring.remaining = 10 && t.sched.entries.ring.granted = 9
        && t.sched.entries.ring.sheds = 1 && t.sched.curW = 0 && t.sched.foreign = 2500 && t.sched.computed = 1200) = true := by
  decide +kernel

/-- R114: a limit set between the completion of the round and the computation acts at the next round. -/
theorem test_a_later_limit_waits_for_the_next_round :
    leaves .budgetRecompute { hobSlot with sched := { hobSlot.sched with limit := 7400 } } (fun t =>
      t.sched.computed = 1200 && t.sched.entries.ring.on = false) = true := by
  decide +kernel

/-- R115: the first slot after a reset is walked under the budget of the round, though that round is still owed. -/
theorem test_the_first_slot_is_measured :
    leaves .slotStart { hobSlot with sched := { hobSlot.sched with measured := false } } (fun t =>
      t.sched.inForce = 1200 && t.meas.owed.budget = false && t.sched.measured) = true := by
  decide +kernel

/-! ### The scale account (Worked case "accrual, threshold and saturation") -/

/-- VERIFYING at the end of a COOK fill of 287 mL, as fill 1 of the worked case finds the account. -/
def verifying : State :=
  let s := cooking [combiCook] 0
  { s with water := { s.water with
      op := .verifying, purpose := .cook, attempt := some 1, flow := 575, account := 14650, remainder := 400, savedMg := 14200 } }

theorem test_accrual_of_fill_1 :
    leaves .verifyEnd verifying (fun t =>
      t.water.account = 14722 && t.water.remainder = 150 && t.water.savedMg = 14722 && t.water.lastFill = some 287) = true := by
  decide +kernel

theorem test_accrual_saturates :
    let w := { ready.water with account := 65500, remainder := 400, hardness := 500 }
    (w.accrue 300).account = 65535 ∧ (w.accrue 300).remainder = 400 := by decide

/-! ### Building a program (1.6, the worked example) -/

/-- Commands 1 to 6 of the worked example, each on the table the command before it left. -/
theorem test_building_a_program :
    let put (i : Byte) (w : StepWire) (s : State) : Status × State := ((putStepReply i w s).status, (putStepReply i w s).state)
    let none13 : StepWire :=
      { kind := 0, parts := 0, mode := 0, setpoint := 0, steam := 0, fan := 0, duration := 0, promptKind := 0, timeout := 0,
        action := 0, guards := [] }
    let rest : StepWire := { none13 with kind := 4, parts := 0x06, fan := 255, duration := 600 }
    let a := put 0 { none13 with kind := 1, parts := 0x03, mode := 7, setpoint := 1800, steam := 30, fan := 255 } ready
    let b := put 1 (cookWire [aGuard]) a.2
    let c := put 3 rest b.2
    let d := put 2 { none13 with kind := 3, parts := 0x10, promptKind := 4, timeout := 300, action := 1 } c.2
    let e := put 3 rest d.2
    let f := put 4 { none13 with kind := 2, parts := 0x03, mode := 4, setpoint := 2200, fan := 255 } e.2
    [a.1, b.1, c.1, d.1, e.1, f.1] = [.ok, .clamped, .index, .ok, .ok, .invalidStep]
      ∧ f.2.prog = {
          steps := [.preheat combi, .cook { combi with steam := 90 } (some 2400) [{ sensor := .probe, test := .atLeast 720 }],
            .prompt .checkDoneness 300 .goOn, .rest 0 600]
          origin := .edited } := by decide +kernel

/-! ### Notices (Worked sequence "notices across a run start") -/

/-- READY with one REST step, rinse-owed clear, and the link's consent armed. -/
def startable : State :=
  { ready with
    prog := { steps := [.rest 0 600], origin := .edited }
    run := { ready.run with consent := true }
    water := { ready.water with rinseOwed := false } }

theorem test_notices_of_a_start :
    leaves (.start .link 1) startable (fun t =>
      t.ports.panel.notices = [.optionsChanged, .runChanged, .modeChanged, .stepAdvanced]
        && t.ports.link.notices = t.ports.panel.notices) = true := by decide +kernel

theorem test_get_notices_releases_the_line :
    leaves (.getNotices .panel)
      { ready with ports := { ready.ports with panel := { ready.ports.panel with notices := [.modeChanged, .storeDone] } } }
      (fun t => t.ports.panel.resp = { status := .ok, echo := 0x09, payload := [2, 10, 11] } && !attention t .panel) = true := by
  decide +kernel

/-! ### Fills, rounds and transfers at their edges -/

/-- The 800th pulse fails the attempt (R125), so a level that then reads WET does not begin verification (R125). -/
theorem test_the_800th_pulse_fails_the_attempt :
    leaves .flowPulse { verifying with water := { verifying.water with op := .filling, flow := 799 } } (fun t =>
      t.water.op = .retryWait && t.water.flow = 800 && t.water.failures = 1 && t.water.attempt = some 2) = true := by
  decide +kernel

/-- A round that completes in DOOR_HELD is not judged after the return to RUNNING (R11): the door opens, a round completes, the
door closes, and no judgement is owed. -/
theorem test_a_round_of_DOOR_HELD_is_not_judged :
    leaves .doorOpens (cooking [combiCook] 0) (fun s1 =>
      leaves (.roundComplete { refA := 40000, refB := 40000, cav := 28883, vent := 28883, probe := 5, boil := 571000, pulses := 0 })
        { s1 with meas := { s1.meas with inProgress := some true } } (fun s2 =>
          s2.meas.owed.fault && leaves .doorCloses s2 (fun t => t.run.state = .running && !t.meas.owed.judgement))) = true := by
  decide +kernel

/-- ANSWER(1, CONFIRM) written to the panel port at 0x3A and ended by a STOP (R182, R183); at 0x3B the port does not answer. -/
theorem test_transfer_of_an_answer :
    (writeTransfer .panel 0x3A [0x29, 2, 1, 1] .stop ready).pending = [.answer .panel 1 1]
      ∧ writeTransfer .panel 0x3B [0x29, 2, 1, 1] .stop ready = ready
      ∧ (writeTransfer .panel 0x3A [0x29, 2, 1, 1] .otherAddress ready).pending = [.writeDiscard .panel]
      ∧ ((writeTransfer .panel 0x3A (List.replicate 65 0x01) .stop ready).ports.get .panel).held.length = 64
      ∧ readTransfer .panel 5 ready = [0x7F, 0, 0, 0, 0] := by decide +kernel

/-- R191, R196: of a write that a RESET on another port has cut off, neither the bytes held nor the later ones are taken. -/
theorem test_a_reset_abandons_a_write :
    leaves (.reset .service) (receiveBytes .panel [0x29, 2] (beginWrite .panel ready)) (fun t =>
      (endWrite .panel .stop (receiveBytes .panel [0x01, 0x00] t)).pending = []
        && (writeTransfer .panel 0x3A [0x01, 0x00] .stop t).pending = [.getStatus .panel]) = true := by
  decide +kernel

/-! ### A state that meets the hypotheses of each statement -/

/-- READY with the mode STANDBY. -/
def asleep : State := { ready with modes := State.reset.modes }

/-- A run end finds this: RUNNING at the last step of a one-step program. -/
def lastStep : State := cooking [combiCook] 0

/-- Two steps, the run at the first. -/
def twoSteps (x : Machine.Step) : State := cooking [x, .rest 0 600] 0

/-- A prompt with nothing remaining. -/
def prompt (k : PromptKind) (timeout remaining : Nat) (a : TimeoutAction) : Prompt :=
  { id := 1, kind := k, source := k.source, raisedAt := 0, timeout := timeout, action := a, remaining := remaining }

def withPrompt (q : Prompt) (s : State) : State :=
  { s with prompts := { list := [q], history := [], nextId := 2 } }

/-- Every block has still to take the round. -/
def owing (s : State) : State :=
  { s with meas := { s.meas with
      owed := { judgement := true, closure := true, fault := true, budget := true, drain := true, mode := true } } }

/-- The round's CAV and BOIL, as the blocks take them. -/
def round (cav boil : Option Int) (s : State) : State :=
  { s with meas := { s.meas with latest := { s.meas.latest with
      beganAwake := true
      readings := { s.meas.latest.readings with
        cav := { condition := .valid, value := cav }, boil := { condition := .valid, value := boil } } } } }

def atWater (op : WaterOp) (p : Purpose) (s : State) : State := { s with water := { s.water with op := op, purpose := p } }

def atMode (m : ApplianceMode) (c : Option Cooling) (s : State) : State :=
  { s with modes := { s.modes with mode := m, idle := none, cooling := c } }

def atRun (f : Run → Run) (s : State) : State := { s with run := f s.run }

/-- Slot n of a running frame with RING on and BOILER owed a slot. -/
def slotOf (n : Nat) : State :=
  let s := cooking [combiCook] 0
  { s with
    demand := { s.demand with steam := .admitted }
    sched := { s.sched with
      slot := n, slotStarted := true, curW := 2000
      entries := { s.sched.entries with
        ring := { s.sched.entries.ring with request := 19, remaining := 10, granted := 9, on := true, slotRated := 2000 }
        boiler := { s.sched.entries.boiler with request := 12, remaining := 12 } } } }

def recipe : Recipe := { name := [0x42, 0x75, 0x6E, 0x73], category := .bake, steps := [combiCook] }

def withSlot (x : Slot) (s : State) : State := { s with store := { s.store with slots := s.store.slots.set 23 x } }

def inFlight (f : Flight) (s : State) : State := { s with store := { s.store with flight := some f } }

theorem test_witness_QueueFrontRuns :
    ({ ready with pending := [.doorOpens, .doorCloses] } : State).pending = .doorOpens :: [.doorCloses]
      ∧ State.reset.pending = [] := by decide

theorem test_witness_FrameSpellsItsCommand :
    (Instr.recipeStore .service 0 6 (List.replicate 60 0x7E)).wf = true
      ∧ (frameOf (.recipeStore .service 0 6 (List.replicate 60 0x7E))).isSome = true
      ∧ frameOf (.formCheckFailure .link [0x01]) = some (.link, [0x01]) ∧ (Instr.formCheckFailure .link [0x01]).wf = true := by
  decide

theorem test_witness_CommandHasOneFrame :
    ofFrame .link [0x29, 2, 1, 1] = some (.answer .link 1 1) ∧ ofFrame .link [0x29] = some (.formCheckFailure .link [0x29]) := by
  decide

theorem test_witness_StoredRecordsReadBack :
    (Machine.Step.preheat { combi with setpoint := 300, steam := 10, fan := 0 }).acceptable = true
      ∧ (Machine.Step.cook { combi with setpoint := 2500, steam := 90, fan := 100 } (some 43200)
          (List.replicate 4 { sensor := .boil, test := .near 4000 1000 })).acceptable = true
      ∧ (Machine.Step.prompt .checkDoneness 3600 .endRun).acceptable = true
      ∧ (Machine.Step.rest 100 1).acceptable = true := by decide

theorem test_witness_ReadingCommandsReport :
    lastStep.prog.steps[(0 : Byte).toNat]? = some combiCook ∧ lastStep.prog.steps.length ≤ (1 : Byte).toNat
      ∧ lastStep.meas.refA.count < 65536 ∧ lastStep.meas.refB.count < 65536 := by decide

theorem test_witness_StatusPayloadLayout :
    ready.store.slots.length = 24 ∧ (withSlot (.valid recipe) ready).store.slots[23]? = some (.valid recipe)
      ∧ (statusPayload .panel (withSlot (.valid recipe) ready))[13 + 23 / 4]? = some 0x95
      ∧ ({ ready with store := { ready.store with lastWrite :=
          { ready.store.lastWrite with panel := some { slot := 23, erase := true, ok := false } } } } : State).store.lastWrite.get
          .panel = some { slot := 23, erase := true, ok := false } := by decide

theorem test_witness_FaultPayloadLayout :
    State.reset.faults.capture.isSome = State.reset.faults.hold ∧ State.reset.faults.hold = false
      ∧ (enterHold .reference lastStep).faults.capture = some (captureOf .reference lastStep)
      ∧ (enterHold .reference lastStep).faults.hold = true := by decide +kernel

theorem test_witness_RecipeReadAnswers :
    (withSlot (.valid recipe) ready).store.slots.length = 24
      ∧ (withSlot (.valid recipe) ready).store.slots[(23 : Byte).toNat]? = some (.valid recipe)
      ∧ (withSlot .corrupt ready).store.slots[(23 : Byte).toNat]? = some .corrupt := by decide

/-- The limits of R8 and R9 in the bytes of a record, each met and each missed by one (R193). -/
theorem test_witness_PutStepStores :
    (stepOfWire (cookWire [aGuard])).any stepInRange = true
      ∧ (∀ d ∈ [(0 : Half), 43201], RecordOutOfRange { cookWire [aGuard] with duration := d })
      ∧ (∀ d ∈ [(1 : Half), 43200], ¬ RecordOutOfRange { cookWire [aGuard] with duration := d })
      ∧ RecordOutOfRange (cookWire [{ aGuard with t1 := 4001 }])
      ∧ ¬ RecordOutOfRange (cookWire [{ aGuard with t1 := 4000 }]) := by
  refine ⟨by decide, ?_⟩
  simp [RecordOutOfRange, GuardOutOfRange, cookWire, aGuard, BitVec.getLsbD, BitVec.toInt]
  decide

/-- Refused by R3 and R9: a guard list missing or empty with no duration, a surplus prompt part, a mode that is no code, and t2 against
its option; t1 equal to t2 is taken (R193). -/
theorem test_witness_PutStepStores_invalid :
    (∀ w ∈ [{ cookWire [] with parts := 0x03 }, { cookWire [] with parts := 0x0B }, { cookWire [aGuard] with parts := 0x3F },
        { cookWire [aGuard] with mode := 8 }, cookWire [{ aGuard with t2 := 0 }],
        cookWire [{ aGuard with option := 3, t2 := 0xFFFF }], cookWire [{ aGuard with option := 4, t2 := 719 }]],
      RecordInvalid w)
      ∧ ¬ RecordInvalid (cookWire [{ aGuard with option := 4, t2 := 720 }]) := by
  simp [RecordInvalid, GuardInvalid, cookWire, aGuard, BitVec.getLsbD, BitVec.toInt]
  decide

theorem test_witness_ProgramClearAndLoad :
    (withSlot (.valid recipe) ready).store.slots.length = 24 ∧ runActive (withSlot (.valid recipe) ready) = false := by decide

theorem test_witness_WritesComplete :
    (inFlight (.store 23 recipe .link) ready).store.flight = some (.store 23 recipe .link)
      ∧ (inFlight (.erase 8 .panel) ready).store.flight = some (.erase 8 .panel)
      ∧ (inFlight (.save AppRecord.defaults false) ready).store.flight = some (.save AppRecord.defaults false) := by decide

/-- Both for fresh readings and for readings that are not, for a program that steams and one that does not. -/
theorem test_witness_StartBeginsTheRun :
    optionsOf 15 = some { light := true, keepWarm := true, fastPreheat := true, eco := true }
      ∧ (∀ s ∈ [startable, { startable with modes := State.reset.modes },
            { startable with prog := { steps := [combiCook], origin := .edited } }],
          s.faults.hold = false ∧ runActive s = false ∧ s.prog.steps ≠ [] ∧ s.pins.doorOpen = false ∧ s.run.consent = true
            ∧ s.water.stepDrainWaiting = false ∧ s.water.rinseOwed = false ∧ s.modes.mode ≠ .active)
      ∧ combiCook.steams = true ∧ programSteams startable = false
      ∧ (heardBy .link startable).modes.fresh = true
      ∧ (heardBy .link { startable with modes := State.reset.modes }).modes.fresh = false := by decide

theorem test_witness_BuiltinStartsBegin :
    Port.service ≠ .link ∧ runActive ready = false ∧ ready.pins.doorOpen = false ∧ ready.faults.hold = false
      ∧ ready.water.rinseOwed = true ∧ (heardBy .service ready).modes.fresh = true ∧ ready.water.op = .idle
      ∧ (atWater .drainWaitCool .afterRun ready).water.op.draining? = true := by decide

theorem test_witness_PauseAndResume :
    lastStep.run.state = .running ∧ (atRun (fun r => { r with state := .paused }) lastStep).run.state = .paused
      ∧ lastStep.pins.doorOpen = false := by decide

theorem test_witness_StopAndSkipMoveTheRun :
    runActive lastStep = true ∧ cookActive lastStep = true ∧ lastStep.run.phase = .steps
      ∧ (0 : Byte).toNat = lastStep.run.stepIdx := by decide

theorem test_witness_AdjustEdits :
    cookActive (twoSteps combiCook) = true ∧ (twoSteps combiCook).run.phase = .steps
      ∧ adjustFieldOf 4 = some .duration ∧ carries combiCook .duration = true ∧ (43200 : Half).toNat ≤ 43200
      ∧ carries (.rest 0 600) .steam = false ∧ adjustFieldOf 5 = none := by decide

theorem test_witness_AnswersMoveTheRun :
    (let q := prompt .checkDoneness 0 3600 .endRun
     let s := withPrompt q (cooking [combiCook, .prompt .checkDoneness 0 .endRun, .rest 0 600] 1)
     s.prompts.list.find? (fun r => r.id = (1 : Byte).toNat) = some q ∧ q.source = .step ∧ s.run.state.inStep = true
      ∧ s.run.phase = .steps ∧ s.prog.steps[s.run.stepIdx - 1]? = some combiCook ∧ PromptsOrdered s
      ∧ (∀ r ∈ s.prompts.list, r.id ≠ (2 : Byte).toNat)
      ∧ (∀ a, answerOf 2 = some a → a ≠ .confirm ∧ (a = .decline ↔ q.kind = .checkDoneness)))
    ∧ (let q := prompt .rinseTank 0 3600 .endRun
       let s := withPrompt q (descaling 8 none)
       s.prompts.list.find? (fun r => r.id = (1 : Byte).toNat) = some q ∧ q.source = .step ∧ s.run.state.inStep = true
        ∧ s.run.phase = .steps)
    ∧ (∀ purpose ∈ [Purpose.cook, .step],
        let q := prompt .refillTank 0 3600 .goOn
        let s := withPrompt q (atWater (.waitTank false) purpose { slotOf 5 with pins := Pins.atReset })
        s.prompts.list.find? (fun r => r.id = (1 : Byte).toNat) = some q ∧ q.source = .water
          ∧ s.water.op.waitingTank = true ∧ s.water.drainPending = false ∧ s.water.stepDrainWaiting = false
          ∧ s.run.state.inStep = true ∧ s.demand.steam = .admitted ∧ s.water.declineMark = false
          ∧ (withPrompt q (atWater (.waitTank true) .step (descaling 2 none))).demand.steam ≠ .admitted) := by decide +kernel

theorem test_witness_ProbePromptCloses :
    let q := prompt .insertProbe 600 600 .goOn
    let s := owing (withPrompt q lastStep)
    s.prompts.list.find? (fun r => r.id = (1 : Byte).toNat) = some q ∧ q.kind = .insertProbe ∧ q.source = .probe
      ∧ s.run.state.inStep = true ∧ s.meas.owed.closure = true
      ∧ s.prompts.list.find? (fun r => r.kind = .insertProbe) = some q := by decide

theorem test_witness_PromptsTimeOut :
    (∀ q ∈ [prompt .insertProbe 600 0 .goOn, prompt .insertProbe 600 0 .endRun, prompt .addFood 3600 0 .goOn,
        prompt .turnFood 10 0 .goOn, prompt .turnFood 3599 0 .endRun],
      (withPrompt q lastStep).prompts.list.find? (fun r => r.id = 1 && r.remaining = 0) = some q
        ∧ q.kind.source = q.source ∧ PromptsOrdered (withPrompt q lastStep))
      ∧ lastStep.run.state.inStep = true ∧ lastStep.run.phase = .steps ∧ lastStep.modes.mode ≠ .standby
      ∧ (∀ purpose ∈ [Purpose.cook, .step],
          let q := prompt .refillTank 0 0 .goOn
          let s := withPrompt q (atWater (.waitTank true) purpose lastStep)
          s.prompts.list.find? (fun r => r.id = 1 && r.remaining = 0) = some q ∧ s.water.op.waitingTank = true
            ∧ s.water.drainPending = false ∧ s.water.stepDrainWaiting = false ∧ s.demand.steam ≠ .admitted)
      ∧ (let s := withPrompt (prompt .refillTank 0 0 .goOn) (atWater (.waitTank false) .cook (slotOf 5))
        s.run.state = .running ∧ s.sched.frameRunning = true ∧ s.demand.steam = .admitted ∧ s.water.declineMark = false
          ∧ s.water.drainPending = false ∧ s.water.stepDrainWaiting = false) := by
  decide +kernel

theorem test_witness_CommandResetLeaves : Port.panel ≠ .link ∧ Port.service ≠ .link := by decide

theorem test_witness_RestoreResetLeaves :
    (ResetCause.powerOn = .powerOn ∨ ResetCause.powerOn = .line) ∧ (ResetCause.line = .powerOn ∨ ResetCause.line = .line) := by
  decide

theorem test_witness_WaterStepsMoveTheRun :
    (builtinProgram .descale)[2]? = some .fill ∧ (builtinProgram .descale)[9]? = some .flush
      ∧ (builtinProgram .descale)[0]? = some .drain ∧ (builtinProgram .rinse).length = 3 + 1
      ∧ (∀ s ∈ [atWater .verifying .step (descaling 2 none),
            atWater (.draining true) .step { descaling 10 (some .drain) with pins := Pins.atReset },
            atRun (fun r => { r with state := .doorHeld }) (atWater (.draining false) .step (descaling 0 none))],
          s.run.state.inStep = true ∧ s.run.phase = .steps ∧ s.modes.mode ≠ .standby ∧ s.water.purpose = .step
            ∧ s.water.drainPending = false ∧ s.water.stepDrainWaiting = false ∧ PromptsOrdered s)
      ∧ (descaling 2 none).pins.boilerLevel = .wet ∧ Pins.atReset.boilerLevel = .dry
      ∧ 5000 ≤ (descaling 10 (some .drain)).water.scaleLimit
      ∧ (let s := withPrompt (prompt .pourAgent 0 3600 .endRun) (descaling 1 none)
        s.prompts.list.find? (fun r => r.id = (1 : Byte).toNat) = some (prompt .pourAgent 0 3600 .endRun)
          ∧ s.demand.steam ≠ .admitted ∧ s.run.kind = .descale ∧ s.run.stepIdx = 1 ∧ s.water.rinseOwed = false) := by
  decide +kernel

theorem test_witness_WaterSettingsAreSet :
    (500 : Half).toNat = 500 ∧ (5000 : Half).toNat = 5000 ∧ (40000 : Half).toNat = 40000 ∧ (5 : Byte).toNat = 5
      ∧ scaleStateOf 5000 5000 = .block ∧ scaleStateOf 0 15000 = .clear
      ∧ (let s := { slotOf 5 with water := { (slotOf 5).water with account := 5000 } }
        s.run.state = .running ∧ s.sched.frameRunning = true ∧ s.demand.steam = .admitted ∧ s.modes.mode = .active
          ∧ scaleState s ≠ .block ∧ (5000 : Half).toNat ≤ s.water.account) := by decide

theorem test_witness_ScaleIsSet :
    (slotOf 5).run.state = .running ∧ (slotOf 5).sched.frameRunning = true ∧ (slotOf 5).demand.steam = .admitted
      ∧ (slotOf 5).modes.mode = .active ∧ scaleState (slotOf 5) ≠ .block
      ∧ (slotOf 5).water.scaleLimit ≤ (15000 : Half).toNat := by decide

theorem test_witness_ElementIsConfigured :
    loadOf 0 = some .ring ∧ ((slotOf 5).sched.entries.get .ring).on = true ∧ (slotOf 5).sched.slotStarted = true
      ∧ ((slotOf 5).sched.entries.get .boiler).on = false
      ∧ 4 < (5 : Byte).toNat ∧ loadOf 4 = some .boiler
      ∧ (let s := { slotOf 0 with sched := { (slotOf 0).sched with slotStarted := false } }
        (s.sched.entries.get .ring).on = true ∧ s.sched.slotStarted = false) := by decide

theorem test_witness_CalibrationIsSet :
    channelOf 4 = some .boil ∧ (206 : Byte).toInt = -50 ∧ (205 : Byte).toInt = -51
      ∧ published (publishing 0 0 (-3) ready) .boil = some (-3) := by decide

theorem test_witness_FramesAreRefused :
    allowedLengths 0x7E = none ∧ allowedLengths 0x20 = some [1] ∧ (0 : Byte).toNat ∉ ([1] : List Nat) ∧ Port.link ≠ .panel
      ∧ Port.service ≠ .link ∧ ofFrame .panel [0x29, 2, 1, 1] = some (.answer .panel 1 1) ∧ 64 < (List.replicate 65 (0 : Byte)).length := by
  decide

theorem test_witness_StandbyIsEnteredAndLeft :
    ready.modes.mode = .ready ∧ asleep.modes.mode = .standby ∧ lastStep.modes.mode = .active
      ∧ ({ ready with modes := { ready.modes with idle := some 0 } } : State).modes.idle = some 0 := by decide

theorem test_witness_DoorMoves :
    ready.pins.doorOpen = false ∧ lastStep.run.state = .running ∧ asleep.modes.mode = .standby
      ∧ (let s := atRun (fun r => { r with state := .doorHeld }) { lastStep with pins := { lastStep.pins with doorOpen := true } }
        s.pins.doorOpen = true ∧ s.run.state = .doorHeld)
      ∧ (let s := atMode .afterRun (some .cooling) { publishing 701 0 0 ready with pins := { ready.pins with doorOpen := true } }
        s.pins.doorOpen = true ∧ s.modes.cooling = some .cooling ∧ s.run.state ≠ .doorHeld)
      ∧ ready.modes.mode = .ready ∧ lastStep.modes.mode = .active := by decide

theorem test_witness_TankChanges :
    tankOk ready = true ∧ (atWater .filling .cook lastStep).water.op = .filling
      ∧ tankOk { ready with pins := { ready.pins with tankLevel := .low } } = false ∧ promptOpen ready .refillTank = false
      ∧ (atWater (.waitTank true) .cook lastStep).water.op = .waitTank true
      ∧ (let q := prompt .refillTank 0 3600 .goOn
        let s := withPrompt q (atWater (.waitTank false) .cook { lastStep with pins := { lastStep.pins with tankLevel := .low } })
        tankOk s = false ∧ s.prompts.list.find? (fun r => r.kind = .refillTank) = some q ∧ q.source = .water
          ∧ s.water.op = .waitTank false) := by decide

theorem test_witness_BoilerLevelChanges :
    lastStep.pins.boilerLevel = .wet ∧ ready.pins.boilerLevel = .dry
      ∧ (let s := { slotOf 5 with sched := { (slotOf 5).sched with entries := { (slotOf 5).sched.entries with
          boiler := { (slotOf 5).sched.entries.boiler with on := true, slotRated := 1800 } } } }
        loadOn s .boiler = true ∧ s.sched.slotStarted = true
          ∧ loadOn { s with sched := { s.sched with slotStarted := false } } .boiler = true)
      ∧ loadOn (slotOf 5) .boiler = false
      ∧ (atWater .verifying .cook lastStep).water.failures < (atWater .verifying .cook lastStep).water.retries
      ∧ (let s := { lastStep with water := { lastStep.water with steamWanted := true } }
        FillWanted { s with pins := { s.pins with boilerLevel := .dry } })
      ∧ (atWater (.waitTank false) .cook ready).water.op.waitingTank = true := by decide

theorem test_witness_FillAttemptsFailAndBegin :
    (let s := { lastStep with water := { lastStep.water with op := .filling, flow := 799, failures := 2 } }
     s.water.op = .filling ∧ ¬ s.water.flow + 1 < 800 ∧ 799 ≤ s.water.flow ∧ s.water.retries ≤ s.water.failures)
      ∧ lastStep.water.failures < lastStep.water.retries ∧ (atWater .retryWait .cook ready).water.op = .retryWait
      ∧ tankOk { ready with pins := { ready.pins with tankPresent := false } } = false := by decide

theorem test_witness_FillAccruesScale :
    verifying.water.op = .verifying ∧ boilerWet verifying = true ∧ verifying.water.purpose = .cook
      ∧ verifying.run.kind = .cook ∧ verifying.water.rinseOwed = false
      ∧ verifying.water.drainPending = false ∧ verifying.water.stepDrainWaiting = false := by decide

/-- The worked accrual again: from 14,200 mg saved to 14,722 mg, past 500 mg unsaved and past a limit of 14,700 mg. -/
theorem test_witness_FillAccruesScale_block :
    let s := { verifying with
      water := { verifying.water with scaleLimit := 14700 }, demand := { verifying.demand with steam := .admitted } }
    scaleState s ≠ .block ∧ scaleStateOf 14722 14700 = .block ∧ 500 ≤ 14722 - s.water.savedMg
      ∧ s.run.state = .running ∧ s.sched.frameRunning = true ∧ s.demand.reported = false := by decide

theorem test_witness_DrainsRun :
    (atWater (.draining true) .afterRun lastStep).water.op = .draining true ∧ boilerWet lastStep = true
      ∧ (let s := atMode .afterRun (some .cooled) (atWater (.draining false) .afterRun ready)
        s.water.op = .draining false ∧ boilerWet s = false ∧ s.water.stepDrainWaiting = false ∧ s.water.steamWanted = false)
      ∧ (owing (round none (some 799) (atWater .drainWaitCool .afterRun ready))).meas.owed.drain = true := by decide

/-- R156, R160: of two raises of FILL_FAILED the first sets the hold and the second is a later fault, none being left. -/
theorem test_each_raise_is_a_fault :
    leaves .fillFailed { lastStep with water := { lastStep.water with fillFailedRaises := 2 } } (fun t =>
      t.faults.hold && t.faults.later = 0 && t.water.fillFailedRaises = 1
        && leaves .fillFailed t (fun u =>
          u.faults.later = 1 && u.faults.lastLater = some .fillFailed && u.water.fillFailedRaises = 0)) = true := by
  decide +kernel

/-- With the hold clear and with it set. -/
theorem test_witness_WaterFaultsAreTakenAndCleared :
    (let s := { lastStep with water := { lastStep.water with fillFailedRaises := 2, drainFailedRaises := 1 } }
     0 < s.water.fillFailedRaises ∧ 0 < s.water.drainFailedRaises ∧ s.faults.hold = false
        ∧ (enterHold .reference s).faults.hold = true ∧ 0 < (enterHold .reference s).water.fillFailedRaises)
      ∧ (let s := enterHold .fillFailed ready
        runActive s = false ∧ s.water.stepDrainWaiting = false ∧ s.faults.hold = true ∧ captureBlocks s = false)
      ∧ ready.faults.hold = false ∧ ready.water.fillFailedRaises = 0 ∧ ready.water.drainFailedRaises = 0
      ∧ (∀ s ∈ [lastStep, { lastStep with water := { lastStep.water with op := .waitTank false, purpose := .cook } }],
        PromptsOrdered s ∧ runActive s = true ∧ s.modes.mode ≠ .standby)
      ∧ runActive ready = false ∧ runActive asleep = false ∧ asleep.modes.mode = .standby := by
  decide +kernel

theorem test_witness_TimersEnd :
    let at_ (x : Machine.Step) (n : Nat) : State := atRun (fun r => { r with stepElapsed := n, secondDue := true }) (twoSteps x)
    (at_ (.preheat combi) 2700).run.secondDue = true ∧ (at_ combiCook 2400).run.state = .running
      ∧ (∃ n ∈ (at_ combiCook 2400).run.durOverride.or (some 2400), n ≤ (at_ combiCook 2400).run.stepElapsed)
      ∧ (600 : Nat) ≤ (at_ (.rest 0 600) 600).run.stepElapsed ∧ (at_ combiCook 0).modes.mode ≠ .standby
      ∧ (atRun (fun r => { r with stepElapsed := 1200, secondDue := true }) (descaling 6 none)).run.stepIdx = 6
      ∧ (let s := atRun (fun r => { r with flushHold := 60 }) (descaling 9 (some .hold))
        60 ≤ s.run.flushHold ∧ s.water.op = .idle ∧ s.faults.hold = false ∧ s.run.flushPart = some .hold)
      ∧ (let s := atRun (fun r => { r with phase := .keepWarm, stepElapsed := 1800, secondDue := true }) lastStep
        s.run.phase = .keepWarm ∧ 1800 ≤ s.run.stepElapsed)
      ∧ (∃ h ∈ (some 300 : Option Nat), 300 ≤ h) ∧ (∃ h ∈ (some 3600 : Option Nat), 3600 ≤ h)
      ∧ (∀ n ∈ (at_ combiCook 2399).run.durOverride.or (some 2400), (at_ combiCook 2399).run.stepElapsed < n)
      ∧ (at_ (.rest 0 600) 599).run.stepElapsed < 600 ∧ (at_ (.preheat combi) 2699).run.stepElapsed < 2700
      ∧ (∀ h ∈ (some 299 : Option Nat), h < 300) ∧ (∀ h ∈ (some 3599 : Option Nat), h < 3600) := by decide

theorem test_witness_RoundsBeginAndPublish :
    ready.meas.inProgress = none
      ∧ ({ ready with meas := { ready.meas with inProgress := some true } } : State).meas.inProgress ≠ none := by decide

/-- The limits of R68 and R69, and readings on each side of the limits of R70. -/
theorem test_witness_ChannelsConvert :
    (convert .cav 19999 16).condition = .reference ∧ (convert .cav 60001 16).condition = .reference
      ∧ (convert .boil 60000 15).condition = .opened ∧ (convert .boil 20000 16).condition = .opened
      ∧ (convert .cav 60000 1200000).condition = .valid ∧ (convert .cav 60000 1300000).condition = .short := by
  decide +kernel

theorem test_witness_RoundsMoveTheRun :
    (let s := owing (round none none (atRun (fun r => { r with state := .preparing }) lastStep))
     s.meas.owed.judgement = true ∧ s.run.state = .preparing ∧ s.meas.latest.beganAwake = true ∧ s.run.kind ≠ .none)
      ∧ (let s := owing (round (some 1780) none (twoSteps (.preheat combi)))
        s.run.state = .running ∧ s.run.phase = .steps ∧ s.run.kind = .cook ∧ s.modes.mode ≠ .standby
          ∧ s.prog.steps[s.run.stepIdx]? = some (.preheat combi)
          ∧ ∃ v ∈ s.meas.latest.readings.cav.value, combi.setpoint - 20 ≤ v)
      ∧ (twoSteps combiCook).prog.steps[(twoSteps combiCook).run.stepIdx]? = some combiCook := by decide

/-- The rounds that leave the part as it is. -/
theorem test_witness_RoundsMoveTheRun_other :
    (let s := owing (atRun (fun r => { r with state := .preparing }) { lastStep with modes := { lastStep.modes with fresh := false } })
     s.run.state = .preparing ∧ s.modes.fresh = false ∧ s.meas.latest.beganAwake = false ∧ s.meas.owed.judgement = true)
      ∧ (atRun (fun r => { r with state := .doorHeld }) lastStep).run.state ≠ .running
      ∧ (atRun (fun r => { r with phase := .keepWarm }) lastStep).run.phase = .keepWarm
      ∧ (descaling 3 none).run.kind ≠ .cook
      ∧ (cooking [.rest 0 600] 0).prog.steps[(cooking [.rest 0 600] 0).run.stepIdx]? = some (.rest 0 600) := by decide

/-- Two kinds at once, with the hold clear; and none. -/
theorem test_witness_RoundsAreTested :
    (owing (round (some 2901) (some 1401) lastStep)).meas.owed.fault = true
      ∧ roundKinds.filter (fun j => !lastStep.faults.tripped.get j && roundShows (round (some 2901) (some 1401) lastStep) j)
          = [.cavityOvertemp, .boilerOvertemp]
      ∧ runActive lastStep = true ∧ lastStep.modes.mode ≠ .standby ∧ lastStep.water.op.waitingTank = false
      ∧ (∀ k ∈ roundKinds, roundShows (round (some 2900) (some 1400) lastStep) k = false) := by decide +kernel

theorem test_witness_BudgetFollowsTheRound :
    hobSlot.meas.owed.budget = true ∧ hobSlot.sched.slotStarted = true ∧ ¬ hobSlot.meas.supplyW ≤ hobSlot.meas.latest.budget.limit
      ∧ loadOn hobSlot .ring = true := by decide

theorem test_witness_ModeFollowsTheRound :
    let s := atMode .afterRun (some .cooling) (owing (round (some 699) none ready))
    s.meas.owed.mode = true ∧ s.modes.mode = .afterRun ∧ s.modes.cooling = some .cooling
      ∧ (∃ v ∈ s.meas.latest.readings.cav.value, v < 700) ∧ drainOwed s = false
      ∧ (∀ v ∈ (round (some 700) none ready).meas.latest.readings.cav.value, 700 ≤ v) := by decide

/-- A slot within the frame and the slot 0 of a frame just formed. -/
theorem test_witness_SlotsKeepTheBudget :
    (slotOf 38).sched.frameRunning = true ∧ (slotOf 38).run.state = .running ∧ (slotOf 38).sched.slot < 39
      ∧ (slotOf 38).sched.scan = true ∧ lastStep.sched.frameRunning = true ∧ lastStep.sched.slotStarted = false
      ∧ ((slotOf 38).sched.entries.get .boiler).enabled = true ∧ 0 < ((slotOf 38).sched.entries.get .boiler).remaining
      ∧ leaves .slotStart (slotOf 38) (fun t => loadOn t .boiler = false) = true
      ∧ hobSlot.sched.measured = false ∧ hobSlot.meas.owed.budget = true ∧ hobSlot.run.state = .running := by decide +kernel

theorem test_witness_FramesComplete :
    (slotOf 39).sched.frameRunning = true ∧ (slotOf 39).run.state = .running ∧ (slotOf 39).sched.slotStarted = true
      ∧ (slotOf 39).sched.slot = 39 := by decide

/-- A restart by RESUME asks for the heat of the COOK step: at CAV 1780 under a setpoint of 1800, COMBI's RING. -/
theorem test_restart_asks_for_heat :
    leaves (.resume .panel) (atRun (fun r => { r with state := .paused, held := some 4 }) (publishing 1780 0 0 lastStep)) (fun t =>
      t.demand.cavityDemand.isSome && t.demand.fanDuty = 60 && t.demand.steam = .admitted
        && t.sched.entries.ring.request = t.demand.requests.ring && 0 < t.demand.requests.ring) = true := by
  decide +kernel

theorem test_witness_FramesAskForHeat :
    (slotOf 39).run.kind = .cook ∧ (slotOf 39).run.phase = .steps
      ∧ (slotOf 39).prog.steps[(slotOf 39).run.stepIdx]? = some combiCook
      ∧ published (publishing 1780 990 959 (slotOf 39)) .boil = some 959
      ∧ published (publishing 1780 990 959 (slotOf 39)) .vent = some 990 ∧ published (slotOf 39) .cav = none
      ∧ SteamDenied { slotOf 39 with water := { (slotOf 39).water with rinseOwed := true } }
      ∧ (slotOf 39).demand.reported = false := by decide

theorem test_witness_FramesAskForOtherHeat :
    (let s := { slotOf 39 with prog := { steps := [.preheat combi], origin := .edited } }
     s.prog.steps[s.run.stepIdx]? = some (.preheat combi) ∧ s.run.kind = .cook ∧ s.run.phase = .steps ∧ s.sched.slot = 39)
      ∧ (∀ x ∈ [Machine.Step.rest 20 600, .prompt .addFood 0 .goOn],
          let s := { slotOf 39 with
            prog := { steps := [combiCook, x], origin := .edited }, run := { (slotOf 39).run with stepIdx := 1 } }
          s.prog.steps[s.run.stepIdx]? = some x ∧ s.run.kind = .cook ∧ s.run.phase = .steps)
      ∧ (atRun (fun r => { r with kind := .rinse }) (slotOf 39)).run.kind = .rinse
      ∧ (let s := atRun (fun r => { r with kind := .descale, stepIdx := 6 }) (publishing 0 0 561 (slotOf 39))
        s.run.kind = .descale ∧ s.run.stepIdx = 6 ∧ s.run.phase = .steps ∧ published s .boil = some 561)
      ∧ (let s := atRun (fun r => { r with phase := .keepWarm }) (publishing 650 0 0 (slotOf 39))
        s.run.phase = .keepWarm ∧ s.sched.frameRunning = true ∧ published s .cav = some 650 ∧ s.run.kind = .cook) := by
  decide

/-- The state of slot 5 with a command waiting, whose step gives a next state, has the properties that the steps keep. -/
def waiting : State := { slotOf 5 with pending := [.doorOpens] }

theorem test_witness_steps_next : ∃ t, step waiting = .next t ∧ t.run.state = .doorHeld := ⟨_, rfl, by decide +kernel⟩

theorem waiting_settings : SettingsInRange waiting :=
  ⟨by decide +kernel, by decide +kernel, by decide +kernel, by rintro f ⟨⟩⟩

theorem waiting_records : RecordsAcceptable waiting :=
  ⟨by decide +kernel, fun x hx => by cases (List.eq_of_mem_replicate (n := 24) hx); trivial, by rintro f ⟨⟩⟩

theorem test_witness_NoticesAndSettingsStayInRange : NoticesOnce waiting ∧ SettingsInRange waiting :=
  ⟨by decide +kernel, waiting_settings⟩

theorem test_witness_LoadsAndHoldStaySafe :
    HoldExcludesRun waiting ∧ LoadsOnlyInRunning waiting ∧ ModeFollowsRun waiting := by decide +kernel

theorem test_witness_FramesStayInOrder :
    BoilerOnlyWet waiting ∧ EntriesInFrame waiting ∧ LoadsOnlyInRunning waiting ∧ RecordsAcceptable waiting
      ∧ SteamOnlyInCook waiting ∧ waiting.demand.steam = .admitted :=
  ⟨by decide +kernel, by decide +kernel, by decide +kernel, waiting_records, by decide +kernel, rfl⟩

theorem test_witness_RecordsStayAcceptable : RecordsAcceptable waiting ∧ LibraryWhole waiting :=
  ⟨waiting_records, by decide +kernel⟩

theorem test_witness_StepStaysWithinProgram : StepWithinProgram waiting ∧ waiting.run.state.active = true := by
  decide +kernel

/-- With a prompt open. -/
theorem test_witness_PromptsStayOrdered :
    let s := withPrompt (prompt .addFood 0 3600 .endRun) waiting
    PromptsOrdered s ∧ RecordsAcceptable s :=
  ⟨by decide +kernel, waiting_records⟩

theorem test_witness_WaterStaysInRange :
    WaterInRange waiting ∧ HoldExcludesRun waiting ∧ SettingsInRange waiting :=
  ⟨by decide +kernel, by decide +kernel, waiting_settings⟩

end Sys2Proof.Tests
end

section
/-! PROOF. The prompt list stays ordered (O58): what the prompt unit's own operations do to the list, then each shared operation
and each owner that can reach them, then one lemma over the commands and events. -/

namespace Sys2Proof.Machine.PromptOrder

open Sys2Proof Sys2Proof.Machine

/-! ### Ids (R51) -/

/-- A list of distinct sources that lacks one has room for the two others only. -/
theorem length_le_two_of_lacks {l : List PromptSource} {c : PromptSource} (hl : l.Nodup) (hc : c ∉ l) : l.length ≤ 2 := by
  have hsub : c :: l ⊆ [.step, .probe, .water] := fun x _ => by cases x <;> simp
  have hle := ((List.nodup_cons.2 ⟨hc, hl⟩).subperm hsub).length_le
  simp only [List.length_cons, List.length_nil] at hle
  omega

theorem idAfter_range {n : Nat} (h : n ≤ 255) : 1 ≤ idAfter n ∧ idAfter n ≤ 255 := by
  unfold idAfter; split <;> omega

theorem freeId_range (used : List Nat) (fuel n : Nat) (h1 : 1 ≤ n) (h2 : n ≤ 255) :
    1 ≤ freeId used fuel n ∧ freeId used fuel n ≤ 255 := by
  induction fuel generalizing n with
  | zero => exact ⟨h1, h2⟩
  | succ fuel ih =>
    unfold freeId
    split
    · exact ih _ (idAfter_range h2).1 (idAfter_range h2).2
    · exact ⟨h1, h2⟩

/-- With at most two other prompts open, the id found after n is neither one of theirs nor n itself: the three ids looked at after
n differ from n and from one another, so that one of them is free. -/
theorem freeId_fresh (used : List Nat) (n : Nat) (hu : used.length ≤ 2) (hn : n ≤ 255) :
    freeId used (used.length + 1) (idAfter n) ∉ used ∧ freeId used (used.length + 1) (idAfter n) ≠ n := by
  match used, hu with
  | [], _ => grind [freeId, idAfter]
  | [a], _ => grind [freeId, idAfter]
  | [a, b], _ => grind [freeId, idAfter]

/-! ### The list under closing and withdrawing (R55, R58) -/

/-- The order speaks of the prompt unit alone. -/
theorem ordered_of_same {s t : State} (h : t.prompts = s.prompts) (hs : PromptsOrdered s) : PromptsOrdered t := by
  unfold PromptsOrdered; rw [h]; exact hs

theorem postAll_ordered (k : Notice) {s : State} (h : PromptsOrdered s) : PromptsOrdered (postAll k s) :=
  ordered_of_same (by simp) h

theorem noteGate_ordered (before : Bool) {s : State} (h : PromptsOrdered s) : PromptsOrdered (noteGate before s) :=
  ordered_of_same (by simp) h

theorem ordered_of_sublist {s t : State} (hl : t.prompts.list.Sublist s.prompts.list)
    (hn : t.prompts.nextId = s.prompts.nextId) (hh : t.prompts.history.length ≤ 4) (hs : PromptsOrdered s) :
    PromptsOrdered t := by
  obtain ⟨hsrc, hid, hrange, hfit, -⟩ := hs
  have hids : (t.prompts.nextId :: t.prompts.list.map (·.id)).Sublist (s.prompts.nextId :: s.prompts.list.map (·.id)) := by
    rw [hn]; exact (hl.map _).cons_cons _
  exact ⟨hsrc.sublist (hl.map _), hid.sublist hids, fun i hi => hrange i (hids.subset hi),
    fun q hq => hfit q (hl.subset hq), hh⟩

theorem closePrompt_prompts (p : Prompt) (o : PromptOutcome) (b : AnsweredBy) (s : State) :
    (closePrompt p o b s).prompts =
      { s.prompts with
        list := s.prompts.list.filter fun q => q.id ≠ p.id
        history := ({ id := p.id, kind := p.kind, outcome := o, by_ := b } :: s.prompts.history).take 4 } := rfl

theorem closePrompt_ordered (p : Prompt) (o : PromptOutcome) (b : AnsweredBy) {s : State} (h : PromptsOrdered s) :
    PromptsOrdered (closePrompt p o b s) :=
  ordered_of_sublist (s := s) List.filter_sublist rfl (List.length_take_le 4 _) h

theorem withdrawList_ordered (ps : List Prompt) {s : State} (h : PromptsOrdered s) : PromptsOrdered (withdrawList ps s) := by
  induction ps generalizing s with
  | nil => exact h
  | cons p ps ih => exact ih (closePrompt_ordered p _ _ h)

theorem withdrawWhere_ordered (fits : Prompt → Bool) {s : State} (h : PromptsOrdered s) :
    PromptsOrdered (withdrawWhere fits s) := withdrawList_ordered _ h

/-- What is still open after a withdrawal was open before and is none of those withdrawn. -/
theorem mem_withdrawList (ps : List Prompt) (s : State) (q : Prompt) :
    q ∈ (withdrawList ps s).prompts.list ↔ q ∈ s.prompts.list ∧ ∀ p ∈ ps, q.id ≠ p.id := by
  induction ps generalizing s with
  | nil => simp [withdrawList]
  | cons p ps ih =>
    rw [withdrawList, ih, closePrompt_prompts]
    simp [and_assoc]

theorem not_fits_of_mem_withdrawWhere {fits : Prompt → Bool} {s : State} {q : Prompt}
    (h : q ∈ (withdrawWhere fits s).prompts.list) : fits q = false := by
  obtain ⟨hq, hne⟩ := (mem_withdrawList _ _ _).1 h
  by_contra hf
  exact hne q (List.mem_filter.2 ⟨hq, by simpa using hf⟩) rfl

/-! ### Raising (R51) -/

/-- The record under which a prompt joins the list (R50, R51). -/
def joining (k : PromptKind) (src : PromptSource) (timeout : Nat) (a : TimeoutAction) (s : State) : Prompt where
  id := s.prompts.nextId
  kind := k
  source := src
  raisedAt := s.run.runElapsed
  timeout := timeout
  action := a
  remaining := if timeout = 0 then Config.pauseLimit else timeout

theorem addPrompt_prompts (k : PromptKind) (src : PromptSource) (timeout : Nat) (a : TimeoutAction) (s : State) :
    (addPrompt k src timeout a s).prompts =
      { s.prompts with
        list := s.prompts.list ++ [joining k src timeout a s]
        nextId := freeId (s.prompts.list.map (·.id)) (s.prompts.list.length + 1) (idAfter s.prompts.nextId) } := rfl

theorem joining_remaining_le {timeout : Nat} (ht : timeout ≤ 3600) (k : PromptKind) (src : PromptSource) (a : TimeoutAction)
    (s : State) : (joining k src timeout a s).remaining ≤ 3600 := by
  unfold joining Config.pauseLimit; simp only; split <;> omega

theorem addPrompt_ordered {k : PromptKind} {src : PromptSource} {timeout : Nat} (a : TimeoutAction) {s : State}
    (hk : k.source = src) (ht : timeout ≤ 3600) (hno : src ∉ s.prompts.list.map (·.source)) (h : PromptsOrdered s) :
    PromptsOrdered (addPrompt k src timeout a s) := by
  obtain ⟨hsrc, hid, hrange, hfit, hhist⟩ := h
  obtain ⟨-, h2⟩ := hrange _ List.mem_cons_self
  have hlen : (s.prompts.list.map (·.id)).length ≤ 2 := by
    simpa using length_le_two_of_lacks hsrc hno
  obtain ⟨ha1, ha2⟩ := idAfter_range h2
  have hfresh := freeId_fresh _ _ hlen h2
  have hr := freeId_range (s.prompts.list.map (·.id)) (s.prompts.list.length + 1) _ ha1 ha2
  rw [List.length_map] at hfresh
  have hperm : ((s.prompts.list ++ [joining k src timeout a s]).map (·.id)).Perm
      (s.prompts.nextId :: s.prompts.list.map (·.id)) := by
    rw [List.map_append]; exact List.perm_append_singleton _ _
  unfold PromptsOrdered
  rw [addPrompt_prompts]
  refine ⟨?_, ?_, ?_, ?_, hhist⟩
  · rw [List.map_append]
    exact List.nodup_append.2 ⟨hsrc, List.nodup_singleton _, by simpa [joining] using hno⟩
  · refine List.nodup_cons.2 ⟨?_, hperm.nodup_iff.2 hid⟩
    rw [hperm.mem_iff, List.mem_cons, not_or]
    exact hfresh.symm
  · intro i hi
    obtain rfl | hi := List.mem_cons.1 hi
    · exact hr
    · exact hrange i (hperm.mem_iff.1 hi)
  · intro q hq
    obtain hq | hq := List.mem_append.1 hq
    · exact hfit q hq
    · rw [List.mem_singleton.1 hq]
      exact ⟨hk, joining_remaining_le ht ..⟩

theorem raisePrompt_ordered {k : PromptKind} {src : PromptSource} {timeout : Nat} (a : TimeoutAction) {s : State}
    (hk : k.source = src) (ht : timeout ≤ 3600) (h : PromptsOrdered s) : PromptsOrdered (raisePrompt k src timeout a s) := by
  refine addPrompt_ordered a hk ht (fun hmem => ?_) (withdrawWhere_ordered _ h)
  obtain ⟨q, hq, hsrc⟩ := List.mem_map.1 hmem
  simpa [hsrc] using not_fits_of_mem_withdrawWhere hq

/-! ### The water unit (R124 to R131) -/

theorem withdrawRefill_ordered {s : State} (h : PromptsOrdered s) : PromptsOrdered (withdrawRefill s) :=
  withdrawWhere_ordered _ h

theorem enterWaitTank_ordered {s : State} (h : PromptsOrdered s) : PromptsOrdered (enterWaitTank s) := by
  unfold enterWaitTank
  simp only
  split
  · exact h
  · exact raisePrompt_ordered _ rfl (by omega) h

theorem beginAttempt_ordered {s : State} (h : PromptsOrdered s) : PromptsOrdered (beginAttempt s) := by
  unfold beginAttempt
  split
  · exact enterWaitTank_ordered h
  · split <;> exact h

theorem beginFill_ordered (p : Purpose) {s : State} (h : PromptsOrdered s) : PromptsOrdered (beginFill p s) :=
  beginAttempt_ordered h

theorem fillNeedTest_ordered {s : State} (h : PromptsOrdered s) : PromptsOrdered (fillNeedTest s) := by
  unfold fillNeedTest
  split
  · exact beginFill_ordered _ h
  · exact h

theorem requestStepFill_ordered {s : State} (h : PromptsOrdered s) : PromptsOrdered (requestStepFill s) := by
  unfold requestStepFill
  split
  · exact beginFill_ordered _ h
  · exact h

theorem failAttempt_ordered {s : State} (h : PromptsOrdered s) : PromptsOrdered (failAttempt s) := by
  unfold failAttempt
  simp only
  split
  · exact h
  · exact fillNeedTest_ordered h

theorem afterIdle_ordered {s : State} (h : PromptsOrdered s) : PromptsOrdered (afterIdle s) :=
  fillNeedTest_ordered (ordered_of_same (by simp) h)

theorem frameWaterTest_ordered {s : State} (h : PromptsOrdered s) : PromptsOrdered (frameWaterTest s) := by
  have hw := withdrawRefill_ordered (s := s.mapWater fun w => { w with steamWanted := wantsSteam s }) h
  unfold frameWaterTest
  split
  · simp only
    split
    · exact afterIdle_ordered (ordered_of_same (by simp) hw)
    · exact fillNeedTest_ordered h
  · exact h

theorem waterRunEnd_prompts (s : State) : (waterRunEnd s).prompts = s.prompts := by
  unfold waterRunEnd
  cases s.water.op <;> simp only [mapWater_blocks, toIdle_keeps]
  split <;> simp

theorem stopOperation_ordered {s : State} (h : PromptsOrdered s) : PromptsOrdered (stopOperation s) := by
  unfold stopOperation
  split
  · exact ordered_of_same (by simp) (withdrawRefill_ordered h)
  · exact h

/-! ### Frames and run ends (R42, R86, R87) -/

theorem frameStart_ordered {s : State} (h : PromptsOrdered s) : PromptsOrdered (frameStart s) := by
  unfold frameStart
  simp only
  refine frameWaterTest_ordered (ordered_of_same ?_ h)
  split <;> split <;> simp

theorem restart_ordered {s : State} (h : PromptsOrdered s) : PromptsOrdered (restart s) := by
  unfold restart
  split
  · exact frameStart_ordered h
  · exact h

theorem runEnd_ordered (cause : EndCause) (finalDrain : Bool) {s : State} (h : PromptsOrdered s) :
    PromptsOrdered (runEnd cause finalDrain s) := by
  have hw := withdrawWhere_ordered (fun _ => true)
    (s := (cutLoads (s.mapRun fun r => r.ended cause)).mapMeas Meas.dropJudgement) h
  exact ordered_of_same (by simp [runEnd, waterRunEnd_prompts]) hw

theorem enterKeepWarm_ordered {s : State} (h : PromptsOrdered s) : PromptsOrdered (enterKeepWarm s) :=
  restart_ordered h

theorem enterHeld_prompts (st : RunState) (s : State) : (enterHeld st s).prompts = s.prompts := by
  simp [enterHeld]

theorem returnToRunning_ordered {s : State} (h : PromptsOrdered s) : PromptsOrdered (returnToRunning s) :=
  restart_ordered h

/-! ### The fault hold (R158, R160) -/

theorem faultMode_prompts (s : State) : (faultMode s).prompts = s.prompts := by
  unfold faultMode; cases s.modes.mode <;> simp

theorem enterHold_ordered (k : FaultKind) {s : State} (h : PromptsOrdered s) : PromptsOrdered (enterHold k s) := by
  have hstop : PromptsOrdered (stopOperation (cutLoads (s.mapFaults fun f => { f with hold := true }))) :=
    stopOperation_ordered h
  refine postAll_ordered .faultEntered ?_
  split
  · exact runEnd_ordered .fault false (ordered_of_same (by simp) hstop)
  · exact ordered_of_same (by simp [faultMode_prompts]) hstop

theorem takeFault_ordered (k : FaultKind) {s : State} (h : PromptsOrdered s) : PromptsOrdered (takeFault k s) := by
  unfold takeFault
  split
  · exact h
  · exact enterHold_ordered k h

theorem takeFaults_ordered (ks : List FaultKind) {s : State} (h : PromptsOrdered s) : PromptsOrdered (takeFaults ks s) := by
  induction ks generalizing s with
  | nil => exact h
  | cons k ks ih => exact ih (takeFault_ordered k h)

/-! ### Step entry (R28, R33, R34, R149) -/

/-- What the program table owes the prompt unit (R8): a PROMPT step raises a step-source kind with a timeout of at most 3,600 s. -/
def PromptStepsFit (s : State) : Prop :=
  ∀ k timeout a, Step.prompt k timeout a ∈ s.prog.steps → k.source = .step ∧ timeout ≤ 3600

/-- A state in which a step may be entered: its prompt list in order, its PROMPT steps within their limits. -/
structure EntryReady (s : State) : Prop where
  ordered : PromptsOrdered s
  fit : PromptStepsFit s

theorem EntryReady.of_same {s t : State} (h : EntryReady s) (hp : t.prompts = s.prompts) (hg : t.prog = s.prog) :
    EntryReady t :=
  ⟨ordered_of_same hp h.ordered, by unfold PromptStepsFit; rw [hg]; exact h.fit⟩

theorem EntryReady.of_ordered {s t : State} (h : EntryReady s) (ht : PromptsOrdered t) (hg : t.prog = s.prog) :
    EntryReady t :=
  ⟨ht, by unfold PromptStepsFit; rw [hg]; exact h.fit⟩

theorem acceptable_prompt {k : PromptKind} {timeout : Nat} {a : TimeoutAction}
    (h : (Step.prompt k timeout a).acceptable = true) : k.source = .step ∧ timeout ≤ 3600 := by
  simp only [Step.acceptable, stepInRange, stepPromptKind, Bool.and_eq_true, Bool.or_eq_true, decide_eq_true_eq] at h
  obtain ⟨⟨hrange, -⟩, hkind⟩ := h
  refine ⟨?_, by omega⟩
  obtain (rfl | rfl) | rfl := hkind <;> rfl

theorem entryReady_of_acceptable {s : State} (h : PromptsOrdered s) (hr : RecordsAcceptable s) : EntryReady s :=
  ⟨h, fun _ _ _ hx => acceptable_prompt (hr.1.2 _ hx)⟩

theorem builtin_prompt_source {k : PromptKind} {kind : RunKind} (h : BuiltinStep.prompt k ∈ builtinProgram kind) :
    k.source = .step := by
  cases kind <;> simp only [builtinProgram, List.mem_cons, List.not_mem_nil, reduceCtorEq, or_false, false_or,
    BuiltinStep.prompt.injEq] at h
  case descale => obtain rfl | rfl := h <;> rfl
  case rinse => rw [h]; rfl

theorem stepEntryActions_ordered (extended : Bool) {s : State} (h : EntryReady s) :
    PromptsOrdered (stepEntryActions extended s) := by
  have hbuiltin : ∀ k : PromptKind, (builtinProgram s.run.kind)[s.run.stepIdx]? = some (.prompt k) →
      PromptsOrdered (raisePrompt k .step 0 .endRun s) := fun k hk =>
    raisePrompt_ordered _ (builtin_prompt_source (List.mem_of_getElem? hk)) (by omega) h.ordered
  unfold stepEntryActions
  split
  · split
    · next k timeout a hk =>
      obtain ⟨hsrc, ht⟩ := h.fit _ _ _ (List.mem_of_getElem? hk)
      exact raisePrompt_ordered a hsrc ht h.ordered
    · split
      · exact raisePrompt_ordered _ rfl (by omega) h.ordered
      · exact h.ordered
    all_goals exact h.ordered
  iterate 2
    · split
      · next k hk => exact hbuiltin k hk
      · split
        · exact h.ordered
        · exact ordered_of_same (by simp) h.ordered
      · exact requestStepFill_ordered h.ordered
      · exact requestStepFill_ordered h.ordered
      all_goals exact h.ordered
  · exact h.ordered

theorem enterStep_ordered (i : Nat) (override : Option Nat) {s : State} (h : EntryReady s) :
    PromptsOrdered (enterStep i override s) :=
  restart_ordered (stepEntryActions_ordered _ (h.of_ordered (postAll_ordered _ (withdrawWhere_ordered _ h.ordered)) (by simp)))

theorem advance_ordered {s : State} (h : EntryReady s) : PromptsOrdered (advance s) := by
  unfold advance
  split
  · split
    · exact enterStep_ordered _ _ h
    · split
      · split
        · exact enterKeepWarm_ordered h.ordered
        · exact runEnd_ordered _ _ h.ordered
      · exact runEnd_ordered _ _ (ordered_of_same (by simp) h.ordered)
      · exact runEnd_ordered _ _ (ordered_of_same (by simp) h.ordered)
      · exact h.ordered
  · exact h.ordered

/-! ### Prompt outcomes (R55, R60 to R62) -/

theorem stepOutcome_ordered (k : PromptKind) (o : PromptOutcome) (a : TimeoutAction) {s : State} (h : EntryReady s) :
    PromptsOrdered (stepOutcome k o a s) := by
  unfold stepOutcome
  split
  · split
    · split
      · exact advance_ordered (h.of_same (by simp) (by simp))
      · exact advance_ordered h
    · split
      · exact runEnd_ordered _ _ h.ordered
      · exact advance_ordered h
    · split
      · exact enterStep_ordered _ _ h
      · exact h.ordered
    · split
      · exact advance_ordered h
      · exact runEnd_ordered _ _ h.ordered
    · exact h.ordered
  · exact h.ordered

theorem probeOutcome_ordered (o : PromptOutcome) (a : TimeoutAction) {s : State} (h : PromptsOrdered s) :
    PromptsOrdered (probeOutcome o a s) := by
  unfold probeOutcome
  split
  · cases o
    case timeout =>
      cases a
      case goOn => exact h
      case endRun => exact runEnd_ordered _ _ h
    all_goals exact h
  · exact h

theorem refillConfirmed_ordered {s : State} (h : PromptsOrdered s) : PromptsOrdered (refillConfirmed s) := by
  unfold refillConfirmed
  split
  · split
    · exact beginAttempt_ordered h
    · exact h
  · exact h

theorem refillRefused_ordered (cause : EndCause) {s : State} (h : PromptsOrdered s) :
    PromptsOrdered (refillRefused cause s) := by
  have hidle : PromptsOrdered (afterIdle (refuseSteam s)) := afterIdle_ordered (ordered_of_same (by simp) h)
  unfold refillRefused
  split
  · simp only
    split
    · exact runEnd_ordered _ _ hidle
    · exact hidle
  · exact h

theorem waterOutcome_ordered (o : PromptOutcome) {s : State} (h : PromptsOrdered s) : PromptsOrdered (waterOutcome o s) := by
  cases o
  case confirm => exact refillConfirmed_ordered h
  case decline => exact refillRefused_ordered _ h
  case timeout => exact refillRefused_ordered _ h
  case extend => exact h
  case withdrawn => exact h

theorem closeAndDeliver_ordered (p : Prompt) (o : PromptOutcome) (b : AnsweredBy) (a : TimeoutAction) {s : State}
    (h : EntryReady s) : PromptsOrdered (closeAndDeliver p o b a s) := by
  have hc : EntryReady (closePrompt p o b s) := h.of_ordered (closePrompt_ordered p o b h.ordered) (by simp)
  unfold closeAndDeliver
  simp only
  split
  · exact stepOutcome_ordered _ _ _ hc
  · exact probeOutcome_ordered _ _ hc.ordered
  · exact waterOutcome_ordered _ hc.ordered

theorem sensorClosure_ordered (k : PromptKind) {s : State} (h : EntryReady s) : PromptsOrdered (sensorClosure k s) := by
  unfold sensorClosure
  split
  · exact closeAndDeliver_ordered _ _ _ _ h
  · exact h.ordered

/-! ### Water steps and starts (R26, R143 to R147) -/

theorem stepFillDone_ordered {s : State} (h : EntryReady s) : PromptsOrdered (stepFillDone s) := by
  unfold stepFillDone
  split
  · split
    · exact advance_ordered h
    all_goals exact h.ordered
  · exact h.ordered

theorem stepDrainDone_ordered {s : State} (h : EntryReady s) : PromptsOrdered (stepDrainDone s) := by
  unfold stepDrainDone
  split
  · split
    · exact advance_ordered h
    · split
      · exact advance_ordered h
      · exact h.ordered
    all_goals exact h.ordered
  · exact h.ordered

theorem dropDrain_keeps (s : State) : (dropDrain s).prompts = s.prompts ∧ (dropDrain s).prog = s.prog := by
  unfold dropDrain; simp only; split <;> simp

theorem cookDrains_keeps (s : State) : (cookDrains s).prompts = s.prompts ∧ (cookDrains s).prog = s.prog := by
  unfold cookDrains; split <;> simp [dropDrain_keeps]

theorem takeOverDrain_keeps (s : State) :
    (takeOverDrain s).prompts = s.prompts ∧ (takeOverDrain s).prog = s.prog := ⟨rfl, rfl⟩

theorem beginRun_ordered (k : RunKind) (p : Port) {drains : State → State} (mark : Bool) {s : State}
    (hd : ∀ u, (drains u).prompts = u.prompts ∧ (drains u).prog = u.prog) (h : EntryReady s) :
    PromptsOrdered (beginRun k p drains mark s) := by
  unfold beginRun
  refine noteGate_ordered _ ?_
  split
  · exact enterStep_ordered _ _ (h.of_same (by simp [hd]) (by simp [hd]))
  · exact ordered_of_same (by simp [hd]) h.ordered

/-! ### Owners that leave the prompt unit alone -/

@[simp] theorem refuse_state (st : Status) (s : State) : (refuse st s).state = s := rfl

@[simp] theorem done_state (st : Status) (s : State) : (done st s).state = s := rfl

/-- The owner of a command leaves the prompt unit as it finds it. -/
def LeavesPrompts (owner : State → Reply) : Prop := ∀ u, (owner u).state.prompts = u.prompts

theorem report_leaves (payload : State → List Byte) : LeavesPrompts (report payload) := fun _ => rfl

theorem getStepReply_leaves (index : Byte) : LeavesPrompts (getStepReply index) := by
  intro u; unfold getStepReply; repeat' split
  all_goals simp

theorem noticesReply_leaves (p : Port) : LeavesPrompts (noticesReply p) := fun _ => rfl

theorem recipeReadReply_leaves (slot part : Byte) : LeavesPrompts (recipeReadReply slot part) := by
  intro u; unfold recipeReadReply; simp only; repeat' split
  all_goals rfl

theorem putStepReply_leaves (index : Byte) (w : StepWire) : LeavesPrompts (putStepReply index w) := by
  intro u; unfold putStepReply; simp only; repeat' split
  all_goals simp

theorem clearReply_leaves : LeavesPrompts clearReply := by
  intro u; unfold clearReply; split <;> simp

theorem loadReply_leaves (slot : Byte) : LeavesPrompts (loadReply slot) := by
  intro u; unfold loadReply; simp only; repeat' split
  all_goals simp

theorem storeReply_leaves (p : Port) (slot category : Byte) (name : List Byte) :
    LeavesPrompts (storeReply p slot category name) := by
  intro u; unfold storeReply; simp only; repeat' split
  all_goals simp

theorem eraseReply_leaves (p : Port) (slot : Byte) : LeavesPrompts (eraseReply p slot) := by
  intro u; unfold eraseReply; simp only; repeat' split
  all_goals simp

theorem pauseReply_leaves : LeavesPrompts pauseReply := by
  intro u; unfold pauseReply; split <;> simp [enterHeld_prompts]

theorem optionsReply_leaves (f : Bool → Bool → Bool) (options : Byte) : LeavesPrompts (optionsReply f options) := by
  intro u; unfold optionsReply; repeat' split
  all_goals simp

theorem consentArmReply_leaves : LeavesPrompts consentArmReply := by
  intro u; unfold consentArmReply; split <;> simp

theorem consentDropReply_leaves : LeavesPrompts consentDropReply := fun _ => rfl

theorem clearFaultReply_leaves : LeavesPrompts clearFaultReply := by
  intro u; unfold clearFaultReply; repeat' split
  all_goals simp

theorem setHardnessReply_leaves (h : Half) : LeavesPrompts (setHardnessReply h) := by
  intro u; unfold setHardnessReply; split <;> simp

theorem setBudgetReply_leaves (mode : Byte) (floor : Half) (manual : Option Half) :
    LeavesPrompts (setBudgetReply mode floor manual) := by
  intro u; unfold setBudgetReply; repeat' split
  all_goals simp

theorem standbyReply_leaves : LeavesPrompts standbyReply := by
  intro u; unfold standbyReply; split <;> simp

theorem elementConfigReply_leaves (entry : Byte) (ratedW : Half) (enabled rampStep : Byte) :
    LeavesPrompts (elementConfigReply entry ratedW enabled rampStep) := by
  intro u; unfold elementConfigReply; repeat' split
  all_goals simp

theorem setSupplyReply_leaves (limit : Half) (volts scan : Byte) : LeavesPrompts (setSupplyReply limit volts scan) := by
  intro u; unfold setSupplyReply; repeat' split
  all_goals simp

theorem setCalReply_leaves (channel offset : Byte) : LeavesPrompts (setCalReply channel offset) := by
  intro u; unfold setCalReply; repeat' split
  all_goals simp

theorem scaleSetReply_leaves (mg : Half) : LeavesPrompts (scaleSetReply mg) := by
  intro u; simp [scaleSetReply]

theorem setScaleLimitReply_leaves (mg : Half) : LeavesPrompts (setScaleLimitReply mg) := by
  intro u; unfold setScaleLimitReply; split <;> simp

theorem setFillRetriesReply_leaves (n : Byte) : LeavesPrompts (setFillRetriesReply n) := by
  intro u; unfold setFillRetriesReply; split <;> simp

/-! ### Commands and their owners (R185): every check that refuses leaves the state, the last branch carries the command out -/

/-- The owner of a command keeps the prompt list ordered where a step may be entered. -/
def OwnerKeepsOrder (owner : State → Reply) : Prop := ∀ u, EntryReady u → PromptsOrdered (owner u).state

theorem LeavesPrompts.keepsOrder {owner : State → Reply} (h : LeavesPrompts owner) : OwnerKeepsOrder owner :=
  fun u hu => ordered_of_same (h u) hu.ordered

theorem command_ordered (p : Port) (echo : Byte) (a : Access) {owner : State → Reply} {s : State}
    (ho : OwnerKeepsOrder owner) (h : EntryReady s) : PromptsOrdered (command p echo a owner s) := by
  have hu : EntryReady (heard (takeFrame p s)) := h.of_same (by simp) (by simp)
  unfold command
  simp only
  split
  · exact ordered_of_same (by simp) (ho _ hu)
  · exact ordered_of_same (by simp) hu.ordered

theorem quietCommand_ordered (p : Port) (echo : Byte) (a : Access) {owner : State → Reply} {s : State}
    (ho : LeavesPrompts owner) (h : PromptsOrdered s) : PromptsOrdered (quietCommand p echo a owner s) := by
  have hown := ho (takeFrame p s)
  unfold quietCommand
  simp only
  split <;> exact ordered_of_same (by simp [hown]) h

theorem replaceOptions_keeps (o : Options) (s : State) :
    (replaceOptions o s).prompts = s.prompts ∧ (replaceOptions o s).prog = s.prog := by
  unfold replaceOptions; simp only; split <;> simp

theorem startReply_keepsOrder (p : Port) (options : Byte) : OwnerKeepsOrder (startReply p options) := by
  intro u hu
  unfold startReply
  iterate 7
    split
    · exact hu.ordered
  exact beginRun_ordered _ _ _ cookDrains_keeps (hu.of_same (replaceOptions_keeps _ u).1 (replaceOptions_keeps _ u).2)

theorem builtinStartReply_keepsOrder (k : RunKind) (p : Port) (due : State → Bool) :
    OwnerKeepsOrder fun u => builtinStartReply k p (due u) u := by
  intro u hu
  simp only [builtinStartReply]
  iterate 4
    split
    · exact hu.ordered
  exact beginRun_ordered _ _ _ takeOverDrain_keeps hu

theorem resumeReply_keepsOrder (p : Port) : OwnerKeepsOrder (resumeReply p) := by
  intro u hu
  unfold resumeReply
  iterate 3
    split
    · exact hu.ordered
  exact returnToRunning_ordered hu.ordered

theorem stopReply_keepsOrder : OwnerKeepsOrder stopReply := by
  intro u hu
  unfold stopReply
  split
  · exact runEnd_ordered _ _ hu.ordered
  · exact hu.ordered

theorem adjustTaken_ordered (i : Nat) (f : AdjustField) (value : Half) (x : Step) {s : State} (h : PromptsOrdered s) :
    PromptsOrdered (adjustTaken i f value x s) := by
  unfold adjustTaken
  simp only
  split
  · split <;> exact restart_ordered h
  · exact h

theorem adjustReply_keepsOrder (index field : Byte) (value : Half) : OwnerKeepsOrder (adjustReply index field value) := by
  intro u hu
  unfold adjustReply
  simp only
  iterate 7
    split
    · exact hu.ordered
  exact adjustTaken_ordered _ _ _ _ hu.ordered

theorem skipReply_keepsOrder (index : Byte) : OwnerKeepsOrder (skipReply index) := by
  intro u hu
  unfold skipReply
  iterate 2
    split
    · exact hu.ordered
  exact advance_ordered hu

theorem answerReply_keepsOrder (p : Port) (id ans : Byte) : OwnerKeepsOrder (answerReply p id ans) := by
  intro u hu
  unfold answerReply
  iterate 5
    split
    · exact hu.ordered
  exact closeAndDeliver_ordered _ _ _ _ hu

/-! ### Resets (R63) -/

theorem ordered_of_emptied {s : State} (h : s.prompts = { list := [], history := [], nextId := 1 }) : PromptsOrdered s := by
  unfold PromptsOrdered; rw [h]; decide

theorem restoreRecord_prompts (r : AppRecord) (s : State) : (restoreRecord r s).prompts = s.prompts := by
  simp [restoreRecord]

theorem fullReset_prompts (cause : ResetCause) (pins : Pins) (s : State) :
    (fullReset cause pins s).prompts = { list := [], history := [], nextId := 1 } := by
  unfold fullReset
  simp only
  split <;> simp [restoreRecord_prompts, blank, State.reset]

/-! ### Events of the ports, the inputs and the water unit -/

theorem formCheckTaken_prompts (p : Port) (bytes : List Byte) (s : State) :
    (formCheckTaken p bytes s).prompts = s.prompts := by
  unfold formCheckTaken; split <;> simp

theorem doorHeard_ordered {s : State} (h : PromptsOrdered s) : PromptsOrdered (doorHeard s) :=
  ordered_of_same (by simp [doorHeard]) h

theorem doorOpened_ordered {s : State} (h : PromptsOrdered s) : PromptsOrdered (doorOpened s) := by
  unfold doorOpened
  refine doorHeard_ordered (ordered_of_same ?_ h)
  split <;> simp [enterHeld_prompts]

theorem doorClosed_ordered {s : State} (h : PromptsOrdered s) : PromptsOrdered (doorClosed s) := by
  unfold doorClosed
  refine doorHeard_ordered ?_
  split
  · exact returnToRunning_ordered h
  · exact h

theorem tankBecomesOk_ordered {s : State} (h : EntryReady s) : PromptsOrdered (tankBecomesOk s) := by
  unfold tankBecomesOk
  split
  · exact sensorClosure_ordered _ h
  · split
    · exact beginAttempt_ordered h.ordered
    · exact h.ordered

theorem tankBecomesNotOk_ordered {s : State} (h : PromptsOrdered s) : PromptsOrdered (tankBecomesNotOk s) := by
  unfold tankBecomesNotOk
  split
  · exact enterWaitTank_ordered h
  · exact h

theorem tankChanged_ordered (present : Bool) (level : TankLevel) {s : State} (h : EntryReady s) :
    PromptsOrdered (tankChanged present level s) := by
  unfold tankChanged
  simp only
  split
  · exact h.ordered
  · split
    · exact tankBecomesOk_ordered (h.of_same (by simp) (by simp))
    · exact tankBecomesNotOk_ordered (ordered_of_same (by simp) h.ordered)

theorem boilerBecomesDry_ordered {s : State} (h : PromptsOrdered s) : PromptsOrdered (boilerBecomesDry s) := by
  unfold boilerBecomesDry
  simp only
  split
  · exact failAttempt_ordered h
  · exact fillNeedTest_ordered h

theorem boilerBecomesWet_ordered {s : State} (h : PromptsOrdered s) : PromptsOrdered (boilerBecomesWet s) := by
  unfold boilerBecomesWet
  split
  · exact h
  · split
    · exact withdrawRefill_ordered h
    · exact h

theorem boilerLevelChanged_ordered (level : BoilerLevel) {s : State} (h : PromptsOrdered s) :
    PromptsOrdered (boilerLevelChanged level s) := by
  have hp := postAll_ordered .waterChanged (s := s.mapPins fun x => { x with boilerLevel := level }) h
  unfold boilerLevelChanged
  simp only
  split
  · exact boilerBecomesDry_ordered hp
  · exact boilerBecomesWet_ordered hp

theorem volumeReached_ordered {s : State} (h : PromptsOrdered s) : PromptsOrdered (volumeReached s) :=
  failAttempt_ordered h

theorem fillVerified_ordered {s : State} (h : EntryReady s) : PromptsOrdered (fillVerified s) := by
  have hc : EntryReady (concludeFill s) := h.of_same (by simp) (by simp)
  unfold fillVerified
  simp only
  refine afterIdle_ordered ?_
  split
  · exact stepFillDone_ordered hc
  · exact hc.ordered

theorem drainSucceeded_ordered {s : State} (h : EntryReady s) : PromptsOrdered (drainSucceeded s) := by
  unfold drainSucceeded
  refine afterIdle_ordered ?_
  split
  · exact ordered_of_same (by simp) h.ordered
  · exact stepDrainDone_ordered (h.of_same (by simp) (by simp))
  · exact ordered_of_same (by simp) h.ordered
  · exact ordered_of_same (by simp) h.ordered

theorem drainNotDone_ordered {s : State} (h : PromptsOrdered s) : PromptsOrdered (drainNotDone s) :=
  fillNeedTest_ordered (ordered_of_same (by simp) h)

theorem drainPassEnded_ordered {s : State} (h : EntryReady s) : PromptsOrdered (drainPassEnded s) := by
  unfold drainPassEnded
  split
  · split
    · exact drainSucceeded_ordered h
    · split
      · exact drainNotDone_ordered h.ordered
      · exact h.ordered
  all_goals exact h.ordered

/-! ### Events of the run, the prompts and the rounds -/

theorem preheatLimitReached_ordered {s : State} (h : EntryReady s) : PromptsOrdered (preheatLimitReached s) := by
  unfold preheatLimitReached
  split
  · split
    · exact advance_ordered (h.of_same (by simp) (by simp))
    · exact h.ordered
  all_goals exact h.ordered

theorem cookDurationReached_ordered {s : State} (h : EntryReady s) : PromptsOrdered (cookDurationReached s) := by
  unfold cookDurationReached
  split
  · split
    · exact advance_ordered h
    · exact h.ordered
  all_goals exact h.ordered

theorem restReached_ordered {s : State} (h : EntryReady s) : PromptsOrdered (restReached s) := by
  unfold restReached
  split
  · split
    · exact advance_ordered h
    · exact h.ordered
  all_goals exact h.ordered

/-- A countdown lowers remaining times and touches nothing the order speaks of besides (R57). -/
theorem countDown_ordered (id : Nat) {s : State} (h : PromptsOrdered s) : PromptsOrdered (s.mapPrompts (countDown id)) := by
  obtain ⟨hsrc, hid, hrange, hfit, hhist⟩ := h
  have hsources : (countDown id s.prompts).list.map (·.source) = s.prompts.list.map (·.source) := by
    simp only [countDown, List.map_map]
    exact List.map_congr_left fun q _ => by simp only [Function.comp]; split <;> rfl
  have hids : (countDown id s.prompts).list.map (·.id) = s.prompts.list.map (·.id) := by
    simp only [countDown, List.map_map]
    exact List.map_congr_left fun q _ => by simp only [Function.comp]; split <;> rfl
  refine ⟨?_, ?_, ?_, ?_, hhist⟩
  · exact hsources ▸ hsrc
  · exact hids ▸ hid
  · exact hids ▸ hrange
  · intro q hq
    obtain ⟨r, hr, rfl⟩ := List.mem_map.1 hq
    obtain ⟨hk, hrem⟩ := hfit r hr
    split
    · exact ⟨hk, by simp only; omega⟩
    · exact ⟨hk, hrem⟩

theorem promptExpires_ordered (id : Nat) {s : State} (h : EntryReady s) : PromptsOrdered (promptExpires id s) := by
  unfold promptExpires
  split
  · split
    · exact closeAndDeliver_ordered _ _ _ _ h
    · exact h.ordered
  · exact h.ordered

theorem publishRound_prompts (k : RoundCounts) (beganAwake : Bool) (s : State) :
    (publishRound k beganAwake s).prompts = s.prompts := by
  unfold publishRound; simp only; split <;> simp

theorem roundCompleted_prompts (k : RoundCounts) (s : State) : (roundCompleted k s).prompts = s.prompts := by
  unfold roundCompleted; split <;> simp [publishRound_prompts]

theorem leavePreparing_ordered {s : State} (h : EntryReady s) : PromptsOrdered (leavePreparing s) :=
  enterStep_ordered _ _ (h.of_same (by simp) (by simp))

theorem judgeRound_ordered {s : State} (h : EntryReady s) : PromptsOrdered (judgeRound s) := by
  unfold judgeRound
  split
  · split
    · exact leavePreparing_ordered h
    · exact h.ordered
  · split
    · exact advance_ordered h
    · exact h.ordered

theorem takeBudget_prompts (s : State) : (takeBudget s).prompts = s.prompts := by
  unfold takeBudget; split <;> simp [budgetRound]

theorem modeRound_prompts (s : State) : (modeRound s).prompts = s.prompts := by
  simp [modeRound]

/-! ### Slots and writes -/

theorem completeFrame_ordered {s : State} (h : PromptsOrdered s) : PromptsOrdered (completeFrame s) :=
  frameStart_ordered h

theorem startSlotNumber_prompts (n : Nat) (s : State) : (startSlotNumber n s).prompts = s.prompts := by
  simp [startSlotNumber]

theorem measuredBudget_prompts (s : State) : (measuredBudget s).prompts = s.prompts := by
  unfold measuredBudget; split <;> simp [takeBudget_prompts]

theorem slotDue_ordered {s : State} (h : PromptsOrdered s) : PromptsOrdered (slotDue s) := by
  unfold slotDue
  split
  · exact ordered_of_same (startSlotNumber_prompts _ _) h
  · split
    · exact ordered_of_same (startSlotNumber_prompts _ _) h
    · exact ordered_of_same (startSlotNumber_prompts _ _) (completeFrame_ordered h)

theorem endFlight_prompts (s : State) : (endFlight s).prompts = s.prompts := by
  unfold endFlight; split <;> simp

theorem recipeWritten_prompts (pass : Bool) (s : State) : (recipeWritten pass s).prompts = s.prompts := by
  unfold recipeWritten; split <;> simp [completeRecipe, endFlight_prompts]

theorem saveWritten_prompts (pass : Bool) (s : State) : (saveWritten pass s).prompts = s.prompts := by
  unfold saveWritten completeSave
  split
  · simp only; split <;> simp [endFlight_prompts]
  all_goals rfl

/-! ### Every command and event -/

/-- An event acts where its occasion stands, and otherwise leaves the state (log entry 5). -/
theorem ite_ordered {c : Prop} [Decidable c] {t u : State} (ht : PromptsOrdered t) (hu : PromptsOrdered u) :
    PromptsOrdered (if c then t else u) := by
  split <;> assumption

/-- Every command and event answers a next state, and its prompt list is in order. -/
theorem exec_ordered (c : Instr) {s : State} (h : EntryReady s) : ∃ t, exec c s = .next t ∧ PromptsOrdered t := by
  cases c with
  | getStatus _ => exact ⟨_, rfl, quietCommand_ordered _ _ _ (report_leaves _) h.ordered⟩
  | getRun _ => exact ⟨_, rfl, quietCommand_ordered _ _ _ (report_leaves _) h.ordered⟩
  | getStep _ _ => exact ⟨_, rfl, quietCommand_ordered _ _ _ (getStepReply_leaves _) h.ordered⟩
  | getSensors _ => exact ⟨_, rfl, quietCommand_ordered _ _ _ (report_leaves _) h.ordered⟩
  | getLoads _ => exact ⟨_, rfl, quietCommand_ordered _ _ _ (report_leaves _) h.ordered⟩
  | getWater _ => exact ⟨_, rfl, quietCommand_ordered _ _ _ (report_leaves _) h.ordered⟩
  | getFault _ => exact ⟨_, rfl, quietCommand_ordered _ _ _ (report_leaves _) h.ordered⟩
  | getPrompts _ => exact ⟨_, rfl, quietCommand_ordered _ _ _ (report_leaves _) h.ordered⟩
  | getNotices _ => exact ⟨_, rfl, quietCommand_ordered _ _ _ (noticesReply_leaves _) h.ordered⟩
  | recipeRead _ _ _ => exact ⟨_, rfl, command_ordered _ _ _ (recipeReadReply_leaves _ _).keepsOrder h⟩
  | programPutStep _ _ _ => exact ⟨_, rfl, command_ordered _ _ _ (putStepReply_leaves _ _).keepsOrder h⟩
  | programClear _ => exact ⟨_, rfl, command_ordered _ _ _ clearReply_leaves.keepsOrder h⟩
  | programLoad _ _ => exact ⟨_, rfl, command_ordered _ _ _ (loadReply_leaves _).keepsOrder h⟩
  | start _ _ => exact ⟨_, rfl, command_ordered _ _ _ (startReply_keepsOrder _ _) h⟩
  | pause _ => exact ⟨_, rfl, command_ordered _ _ _ pauseReply_leaves.keepsOrder h⟩
  | resume _ => exact ⟨_, rfl, command_ordered _ _ _ (resumeReply_keepsOrder _) h⟩
  | stop _ => exact ⟨_, rfl, command_ordered _ _ _ stopReply_keepsOrder h⟩
  | adjust _ _ _ _ => exact ⟨_, rfl, command_ordered _ _ _ (adjustReply_keepsOrder _ _ _) h⟩
  | skip _ _ => exact ⟨_, rfl, command_ordered _ _ _ (skipReply_keepsOrder _) h⟩
  | optSet _ _ => exact ⟨_, rfl, command_ordered _ _ _ (optionsReply_leaves _ _).keepsOrder h⟩
  | optClear _ _ => exact ⟨_, rfl, command_ordered _ _ _ (optionsReply_leaves _ _).keepsOrder h⟩
  | optToggle _ _ => exact ⟨_, rfl, command_ordered _ _ _ (optionsReply_leaves _ _).keepsOrder h⟩
  | answer _ _ _ => exact ⟨_, rfl, command_ordered _ _ _ (answerReply_keepsOrder _ _ _) h⟩
  | consentArm _ => exact ⟨_, rfl, command_ordered _ _ _ consentArmReply_leaves.keepsOrder h⟩
  | consentDrop _ => exact ⟨_, rfl, command_ordered _ _ _ consentDropReply_leaves.keepsOrder h⟩
  | clearFault _ => exact ⟨_, rfl, command_ordered _ _ _ clearFaultReply_leaves.keepsOrder h⟩
  | descaleStart _ => exact ⟨_, rfl, command_ordered _ _ _ (builtinStartReply_keepsOrder _ _ _) h⟩
  | rinseStart _ => exact ⟨_, rfl, command_ordered _ _ _ (builtinStartReply_keepsOrder _ _ fun u => u.water.rinseOwed) h⟩
  | setHardness _ _ => exact ⟨_, rfl, command_ordered _ _ _ (setHardnessReply_leaves _).keepsOrder h⟩
  | setBudget _ _ _ _ => exact ⟨_, rfl, command_ordered _ _ _ (setBudgetReply_leaves _ _ _).keepsOrder h⟩
  | standby _ => exact ⟨_, rfl, quietCommand_ordered _ _ _ standbyReply_leaves h.ordered⟩
  | reset _ => exact ⟨_, rfl, ite_ordered (ordered_of_emptied rfl) (ordered_of_same (by simp) h.ordered)⟩
  | recipeStore _ _ _ _ => exact ⟨_, rfl, command_ordered _ _ _ (storeReply_leaves _ _ _ _).keepsOrder h⟩
  | recipeErase _ _ => exact ⟨_, rfl, command_ordered _ _ _ (eraseReply_leaves _ _).keepsOrder h⟩
  | elementConfig _ _ _ _ _ => exact ⟨_, rfl, command_ordered _ _ _ (elementConfigReply_leaves _ _ _ _).keepsOrder h⟩
  | setSupply _ _ _ _ => exact ⟨_, rfl, command_ordered _ _ _ (setSupplyReply_leaves _ _ _).keepsOrder h⟩
  | setCal _ _ _ => exact ⟨_, rfl, command_ordered _ _ _ (setCalReply_leaves _ _).keepsOrder h⟩
  | scaleSet _ _ => exact ⟨_, rfl, command_ordered _ _ _ (scaleSetReply_leaves _).keepsOrder h⟩
  | setScaleLimit _ _ => exact ⟨_, rfl, command_ordered _ _ _ (setScaleLimitReply_leaves _).keepsOrder h⟩
  | setFillRetries _ _ => exact ⟨_, rfl, command_ordered _ _ _ (setFillRetriesReply_leaves _).keepsOrder h⟩
  | formCheckFailure _ _ => exact ⟨_, rfl, ordered_of_same (formCheckTaken_prompts _ _ _) h.ordered⟩
  | writeDiscard _ => exact ⟨_, rfl, ordered_of_same (by simp) h.ordered⟩
  | powerOnReset _ => exact ⟨_, rfl, ordered_of_emptied (fullReset_prompts _ _ _)⟩
  | lineReset => exact ⟨_, rfl, ordered_of_emptied (fullReset_prompts _ _ _)⟩
  | doorOpens => exact ⟨_, rfl, ite_ordered h.ordered (doorOpened_ordered h.ordered)⟩
  | doorCloses => exact ⟨_, rfl, ite_ordered (doorClosed_ordered h.ordered) h.ordered⟩
  | tankChange _ _ => exact ⟨_, rfl, tankChanged_ordered _ _ h⟩
  | boilerLevelChange _ => exact ⟨_, rfl, ite_ordered h.ordered (boilerLevelChanged_ordered _ h.ordered)⟩
  | flowPulse => exact ⟨_, rfl, ite_ordered (ite_ordered h.ordered (volumeReached_ordered h.ordered)) h.ordered⟩
  | fillVolumeLimit => exact ⟨_, rfl, ite_ordered (volumeReached_ordered h.ordered) h.ordered⟩
  | fillTimeLimit => exact ⟨_, rfl, ite_ordered (failAttempt_ordered h.ordered) h.ordered⟩
  | verifyEnd =>
    exact ⟨_, rfl, ite_ordered (ite_ordered (fillVerified_ordered h) (failAttempt_ordered h.ordered)) h.ordered⟩
  | retryWaitEnd => exact ⟨_, rfl, ite_ordered (beginAttempt_ordered h.ordered) h.ordered⟩
  | tankWaitEnd => exact ⟨_, rfl, ite_ordered (beginAttempt_ordered h.ordered) h.ordered⟩
  | drainPassEnd => exact ⟨_, rfl, drainPassEnded_ordered h⟩
  | fillFailed => exact ⟨_, rfl, ite_ordered (takeFault_ordered _ h.ordered) h.ordered⟩
  | drainFailed => exact ⟨_, rfl, ite_ordered (takeFault_ordered _ h.ordered) h.ordered⟩
  | runSecondTick => exact ⟨_, rfl, h.ordered⟩
  | preheatTimeout => exact ⟨_, rfl, preheatLimitReached_ordered h⟩
  | cookDurationEnd => exact ⟨_, rfl, cookDurationReached_ordered h⟩
  | restEnd => exact ⟨_, rfl, restReached_ordered h⟩
  | soakEnd => exact ⟨_, rfl, ite_ordered (advance_ordered h) h.ordered⟩
  | flushHoldEnd => exact ⟨_, rfl, ite_ordered (ordered_of_same (by simp) h.ordered) h.ordered⟩
  | keepWarmEnd => exact ⟨_, rfl, ite_ordered (runEnd_ordered _ _ h.ordered) h.ordered⟩
  | doorHeldLimit => exact ⟨_, rfl, ite_ordered (ordered_of_same (enterHeld_prompts _ _) h.ordered) h.ordered⟩
  | pauseTimeout => exact ⟨_, rfl, ite_ordered (runEnd_ordered _ _ h.ordered) h.ordered⟩
  | promptCountdown _ => exact ⟨_, rfl, ite_ordered (countDown_ordered _ h.ordered) h.ordered⟩
  | promptTimeout _ => exact ⟨_, rfl, promptExpires_ordered _ h⟩
  | roundBegin => exact ⟨_, rfl, ite_ordered h.ordered h.ordered⟩
  | roundComplete _ => exact ⟨_, rfl, ordered_of_same (roundCompleted_prompts _ _) h.ordered⟩
  | roundRunJudgement => exact ⟨_, rfl, ite_ordered (judgeRound_ordered (h.of_same (by simp) (by simp))) h.ordered⟩
  | probeSensorClosure => exact ⟨_, rfl, ite_ordered (sensorClosure_ordered _ (h.of_same (by simp) (by simp))) h.ordered⟩
  | faultRoundTest => exact ⟨_, rfl, ite_ordered (takeFaults_ordered _ h.ordered) h.ordered⟩
  | budgetRecompute => exact ⟨_, rfl, ordered_of_same (takeBudget_prompts _) h.ordered⟩
  | drainCoolTest => exact ⟨_, rfl, ite_ordered (ordered_of_same (by simp) h.ordered) h.ordered⟩
  | modeRoundUpdate => exact ⟨_, rfl, ite_ordered (ordered_of_same (modeRound_prompts _) h.ordered) h.ordered⟩
  | idleTimeout => exact ⟨_, rfl, ite_ordered (ordered_of_same (by simp) h.ordered) h.ordered⟩
  | slotStart =>
    exact ⟨_, rfl, ite_ordered (slotDue_ordered (ordered_of_same (measuredBudget_prompts _) h.ordered)) h.ordered⟩
  | frameComplete => exact ⟨_, rfl, ite_ordered (completeFrame_ordered h.ordered) h.ordered⟩
  | storeWriteComplete _ => exact ⟨_, rfl, ordered_of_same (recipeWritten_prompts _ _) h.ordered⟩
  | saveComplete _ => exact ⟨_, rfl, ordered_of_same (saveWritten_prompts _ _) h.ordered⟩
  | idleTimerCountdown => exact ⟨_, rfl, ite_ordered h.ordered h.ordered⟩

/-- Settles O58: the command at the front of the queue finds the prompts and the program table as they stood, and every
command and event keeps the list ordered there. -/
theorem promptsStayOrdered : Obligations.PromptsStayOrdered := by
  intro s t ⟨hordered, hrecords⟩ hstep
  have hready := entryReady_of_acceptable hordered hrecords
  unfold step at hstep
  split at hstep
  · cases hstep
    exact hordered
  · next c rest _ =>
    obtain ⟨u, hexec, hu⟩ := exec_ordered c (s := { s with pending := rest }) (hready.of_same rfl rfl)
    rw [hexec] at hstep
    cases hstep
    exact hu

end Sys2Proof.Machine.PromptOrder
end

section
/-! PROOF. How a fill attempt fails, is retried and begins (O37): the tank check of an attempt, the test of the fill need, and the
failed attempt, each said once, then the rows that call them. -/

namespace Sys2Proof.Machine.FillAttempts

open Sys2Proof Sys2Proof.Machine

/-! ### Blocks left alone -/

theorem sameExcept_mapWater (f : Water → Water) (s : State) : SameExcept [.water] s (s.mapWater f) := by
  intro b hb
  cases b
  case water => exact absurd List.mem_cons_self hb
  all_goals rfl

/-- What is left alone from a state on which the water unit has moved is left alone from the state before it. -/
theorem sameExcept_of_mapWater {bs : List Block} {f : Water → Water} {s t : State} (hw : Block.water ∈ bs)
    (h : SameExcept bs (s.mapWater f) t) : SameExcept bs s t := by
  intro b hb
  have hsame := h b hb
  cases b
  case water => exact absurd hw hb
  all_goals exact hsame

theorem failAttempt_sameExcept (s : State) : SameExcept [.water, .ports, .prompts] s (failAttempt s) := by
  intro b hb
  cases b <;> simp [Block.same] at hb ⊢

theorem beginAttempt_sameExcept (s : State) : SameExcept [.water, .ports, .prompts] s (beginAttempt s) := by
  intro b hb
  cases b <;> simp [Block.same] at hb ⊢

/-! ### REFILL_TANK in WAIT_TANK (R128) -/

theorem holds_postAll (k : Notice) (s : State) : Holds k (postAll k s) := by
  intro q
  simp only [postAll, mapPorts_blocks, PerPort.get_map, addNotice]
  split
  · assumption
  · exact List.mem_append_right _ (List.mem_singleton_self k)

theorem promptOpen_raisePrompt (k : PromptKind) (src : PromptSource) (timeout : Nat) (a : TimeoutAction) (s : State) :
    promptOpen (raisePrompt k src timeout a s) k = true := by
  simp [promptOpen, raisePrompt, addPrompt]

theorem enterWaitTank_water (s : State) : (enterWaitTank s).water = { s.water with op := .waitTank false } := by
  unfold enterWaitTank
  simp only
  split <;> simp

theorem enterWaitTank_opens (s : State) : promptOpen (enterWaitTank s) .refillTank = true := by
  unfold enterWaitTank
  simp only
  split
  · assumption
  · exact promptOpen_raisePrompt ..

theorem enterWaitTank_raises {s : State} (h : promptOpen s .refillTank = false) :
    Holds .promptRaised (enterWaitTank s) := by
  have hclosed : ¬ promptOpen (s.mapWater fun w => { w with op := .waitTank false }) .refillTank = true := by
    simpa [promptOpen] using h
  unfold enterWaitTank
  simp only [if_neg hclosed]
  exact holds_postAll _ _

/-! ### An attempt begins with its tank check (R125) -/

theorem beginAttempt_of_tankNotOk {s : State} (h : tankOk s = false) : beginAttempt s = enterWaitTank s := if_pos h

theorem beginAttempt_of_tankOk {s : State} (h : tankOk s = true) :
    beginAttempt s =
      s.mapWater fun w => { w with op := if boilerWet s then .verifying else .filling, flow := 0 } := by
  unfold beginAttempt
  rw [if_neg (by simp [h])]
  split <;> rfl

/-- The water unit as an attempt begins it, whatever the tank. -/
theorem beginAttempt_water (s : State) :
    (beginAttempt s).water =
      { s.water with
        op := if tankOk s = false then .waitTank false else if s.pins.boilerLevel = .wet then .verifying else .filling
        flow := if tankOk s then 0 else s.water.flow } := by
  cases h : tankOk s
  · simp [beginAttempt_of_tankNotOk h, enterWaitTank_water]
  · simp [beginAttempt_of_tankOk h, boilerWet]

/-! ### The fill need (R124) -/

theorem beginFill_begun (p : Purpose) (s : State) : FillBegun p s (beginFill p s) := by
  refine ⟨beginAttempt_water _, fun h => ?_⟩
  have htank : tankOk (s.mapWater fun w => { w with purpose := p, failures := 0, attempt := some 1 }) = false := h
  unfold beginFill
  rw [beginAttempt_of_tankNotOk htank]
  exact enterWaitTank_opens _

theorem steamDenied_iff (s : State) : steamDenied s = true ↔ SteamDenied s := by
  simp [steamDenied, or_assoc]

theorem boilerWet_eq_false_iff (s : State) : boilerWet s = false ↔ s.pins.boilerLevel = .dry := by
  unfold boilerWet
  cases s.pins.boilerLevel <;> simp

theorem cookFillNeeded_iff (s : State) : cookFillNeeded s = true ↔ FillWanted s := by
  simp only [cookFillNeeded, FillWanted, ← steamDenied_iff, ← boilerWet_eq_false_iff, Bool.and_eq_true, Bool.not_eq_true',
    Bool.not_eq_true, decide_eq_true_eq, and_assoc]

theorem fillNeedTest_tested (s : State) : CookFillTested s (fillNeedTest s) := by
  unfold CookFillTested fillNeedTest
  by_cases h : FillWanted s
  · rw [if_pos h, if_pos ((cookFillNeeded_iff s).2 h)]
    exact beginFill_begun .cook s
  · rw [if_neg h, if_neg (mt (cookFillNeeded_iff s).1 h)]

/-- The test of the fill need raises no FILL_FAILED and takes none. -/
theorem fillFailedRaises_of_tested {s t : State} (h : CookFillTested s t) :
    t.water.fillFailedRaises = s.water.fillFailedRaises := by
  unfold CookFillTested at h
  split at h
  · rw [h.1]
  · rw [h]

/-! ### A failed attempt (R127) -/

theorem failAttempt_of_retry {s : State} (h : s.water.failures < s.water.retries) :
    failAttempt s = s.mapWater fun w =>
      { w with op := .retryWait, failures := s.water.failures + 1, attempt := w.attempt.map (· + 1) } := if_pos h

theorem failAttempt_of_exhausted {s : State} (h : s.water.retries ≤ s.water.failures) :
    failAttempt s = fillNeedTest (opIdle { s with water := { s.water with
      failures := s.water.failures + 1, fillFailedRaises := s.water.fillFailedRaises + 1 } }) := if_neg (by omega)

theorem failAttempt_failed (s : State) : AttemptFailed s (failAttempt s) := by
  unfold AttemptFailed
  split
  · next h => rw [failAttempt_of_retry h]; rfl
  · next h => rw [failAttempt_of_exhausted (Nat.le_of_not_lt h)]; exact fillNeedTest_tested _

theorem failAttempt_retry_sameExcept {s : State} (h : s.water.failures < s.water.retries) :
    SameExcept [.water] s (failAttempt s) := by
  rw [failAttempt_of_retry h]
  exact sameExcept_mapWater _ s

theorem failAttempt_raises {s : State} (h : s.water.retries ≤ s.water.failures) :
    (failAttempt s).water.fillFailedRaises = s.water.fillFailedRaises + 1 := by
  rw [failAttempt_of_exhausted h]
  exact fillFailedRaises_of_tested (fillNeedTest_tested _)

/-! ### The rows -/

/-- s with the 800th pulse of the attempt counted. -/
def allPulses (s : State) : State := s.mapWater fun w => { w with flow := 800 }

theorem exec_flowPulse_counts {s : State} (hop : s.water.op = .filling) (h : s.water.flow + 1 < 800) :
    exec .flowPulse s = .next (s.mapWater fun w => { w with flow := w.flow + 1 }) :=
  congrArg Host.Outcome.next ((if_pos hop).trans (if_pos h))

theorem exec_flowPulse_fails {s : State} (hop : s.water.op = .filling) (h : ¬ s.water.flow + 1 < 800) :
    exec .flowPulse s = .next (failAttempt (allPulses s)) :=
  congrArg Host.Outcome.next ((if_pos hop).trans (if_neg h))

theorem exec_flowPulse_elsewhere {s : State} (hop : s.water.op ≠ .filling) : exec .flowPulse s = .next s :=
  congrArg Host.Outcome.next (if_neg hop)

theorem exec_fillTimeLimit {s : State} (hop : s.water.op = .filling) :
    exec .fillTimeLimit s = .next (failAttempt s) :=
  congrArg Host.Outcome.next (if_pos hop)

theorem exec_fillVolumeLimit {s : State} (hop : s.water.op = .filling) (h : 799 ≤ s.water.flow) :
    exec .fillVolumeLimit s = .next (failAttempt (allPulses s)) :=
  congrArg Host.Outcome.next (if_pos ⟨hop, Nat.succ_le_succ h⟩)

/-- The rows that end RETRY_WAIT and the 30 s wait begin the attempt. -/
theorem exec_waitEnd {s : State} (h : s.water.op = .retryWait ∨ s.water.op = .waitTank true) :
    exec (if s.water.op = .retryWait then .retryWaitEnd else .tankWaitEnd) s = .next (beginAttempt s) := by
  obtain hop | hop := h
  · rw [if_pos hop]
    exact congrArg Host.Outcome.next (if_pos hop)
  · rw [if_neg (by simp [hop])]
    exact congrArg Host.Outcome.next (if_pos hop)

theorem flowPulse_counts_or_fails (s : State) : ∃ t, exec .flowPulse s = .next t ∧
    if s.water.op = .filling then
      if s.water.flow + 1 < 800 then t.water = { s.water with flow := s.water.flow + 1 } ∧ SameExcept [.water] s t
      else
        AttemptFailed { s with water := { s.water with flow := 800 } } t
          ∧ (s.water.failures < s.water.retries → SameExcept [.water] s t) ∧ SameExcept [.water, .ports, .prompts] s t
    else t = s := by
  by_cases hop : s.water.op = .filling
  · by_cases h : s.water.flow + 1 < 800
    · refine ⟨_, exec_flowPulse_counts hop h, ?_⟩
      rw [if_pos hop, if_pos h]
      exact ⟨rfl, sameExcept_mapWater _ s⟩
    · refine ⟨_, exec_flowPulse_fails hop h, ?_⟩
      rw [if_pos hop, if_neg h]
      exact ⟨failAttempt_failed (allPulses s),
        fun hr => sameExcept_of_mapWater List.mem_cons_self (failAttempt_retry_sameExcept (s := allPulses s) hr),
        sameExcept_of_mapWater List.mem_cons_self (failAttempt_sameExcept (allPulses s))⟩
  · refine ⟨s, exec_flowPulse_elsewhere hop, ?_⟩
    rw [if_neg hop]

theorem fillLimits_fail {s : State} (hop : s.water.op = .filling) (c : Instr)
    (hc : c ∈ [Instr.fillTimeLimit, .fillVolumeLimit]) (hv : c = .fillVolumeLimit → 799 ≤ s.water.flow) :
    ∃ t, exec c s = .next t
      ∧ AttemptFailed (if c = .fillVolumeLimit then { s with water := { s.water with flow := 800 } } else s) t
      ∧ (s.water.failures < s.water.retries → SameExcept [.water] s t)
      ∧ (s.water.retries ≤ s.water.failures →
          t.water.fillFailedRaises = s.water.fillFailedRaises + 1 ∧ SameExcept [.water, .ports, .prompts] s t) := by
  obtain rfl | rfl : c = .fillTimeLimit ∨ c = .fillVolumeLimit := by simpa using hc
  · refine ⟨_, exec_fillTimeLimit hop, ?_, failAttempt_retry_sameExcept, fun h => ⟨failAttempt_raises h, failAttempt_sameExcept s⟩⟩
    rw [if_neg (by simp)]
    exact failAttempt_failed s
  · refine ⟨_, exec_fillVolumeLimit hop (hv rfl), ?_,
      fun hr => sameExcept_of_mapWater List.mem_cons_self (failAttempt_retry_sameExcept (s := allPulses s) hr),
      fun h => ⟨failAttempt_raises (s := allPulses s) h,
        sameExcept_of_mapWater List.mem_cons_self (failAttempt_sameExcept (allPulses s))⟩⟩
    rw [if_pos rfl]
    exact failAttempt_failed (allPulses s)

theorem waitEnd_begins {s : State} (h : s.water.op = .retryWait ∨ s.water.op = .waitTank true) :
    ∃ t, exec (if s.water.op = .retryWait then .retryWaitEnd else .tankWaitEnd) s = .next t
      ∧ (tankOk s = false →
          t.water = { s.water with op := .waitTank false } ∧ promptOpen t .refillTank = true
            ∧ (promptOpen s .refillTank = false → Holds .promptRaised t)
            ∧ SameExcept [.water, .ports, .prompts] s t)
      ∧ (tankOk s = true →
          t.water = { s.water with op := if boilerWet s then .verifying else .filling, flow := 0 }
            ∧ SameExcept [.water] s t) := by
  refine ⟨_, exec_waitEnd h, fun htank => ?_, fun htank => ?_⟩
  · have hsame := beginAttempt_sameExcept s
    rw [beginAttempt_of_tankNotOk htank] at hsame ⊢
    exact ⟨enterWaitTank_water s, enterWaitTank_opens s, enterWaitTank_raises, hsame⟩
  · rw [beginAttempt_of_tankOk htank]
    exact ⟨rfl, sameExcept_mapWater _ s⟩

/-- Settles O37: the pulse, the two limits and the two waits, from how an attempt fails and how one begins. -/
theorem fillAttemptsFailAndBegin : Obligations.FillAttemptsFailAndBegin :=
  ⟨⟨flowPulse_counts_or_fails, fun _ hop c hc hv => fillLimits_fail hop c hc hv⟩, fun _ h => waitEnd_begins h,
    fun s => by simp [fillPumpOn]⟩

end Sys2Proof.Machine.FillAttempts
end

section
/-! PROOF. One step of the queue (O1). -/

namespace Sys2Proof.Machine.Queue

open Sys2Proof Sys2Proof.Machine

theorem step_of_front {c : Instr} {rest : List Instr} {s : State} (h : s.pending = c :: rest) :
    step s = exec c { s with pending := rest } := by
  unfold step; rw [h]

theorem step_of_empty {s : State} (h : s.pending = []) : step s = .next s := by
  unfold step; rw [h]

/-- Settles O1: the two equations of step. -/
theorem queueFrontRuns : Obligations.QueueFrontRuns :=
  ⟨fun _ _ _ => step_of_front, fun _ => step_of_empty⟩

end Sys2Proof.Machine.Queue
end

section
/-! PROOF. A channel's conversion (O44): the look-up in a table, interpolation over a segment, the two tables of 4.3 with the
facts about their segments that are decided, then the five outcomes of a conversion. -/

namespace Sys2Proof.Machine.Conversion

open Sys2Proof Sys2Proof.Machine

/-! ### The look-up in a table (R71) -/

/-- The neighbouring breakpoints of a table. -/
def segments (table : List (Int × Int)) : List ((Int × Int) × (Int × Int)) := table.zip table.tail

theorem between_iff (r a b : Int) : between r a b = true ↔ min a b ≤ r ∧ r ≤ max a b := by simp [between]

/-- A temperature found in a table is the interpolation over a segment that brackets the resistance (R71). -/
theorem lookup_eq_some {r t : Int} {table : List (Int × Int)} (h : lookup r table = some t) :
    ∃ x ∈ segments table, between r x.1.1 x.2.1 = true ∧ t = interpolate r x.1 x.2 := by
  induction table with
  | nil => simp [lookup] at h
  | cons a l ih =>
    cases l with
    | nil => simp [lookup] at h
    | cons b rest =>
      rw [lookup] at h
      split at h
      · next hb => exact ⟨(a, b), List.mem_cons_self, hb, (Option.some.inj h).symm⟩
      · obtain ⟨x, hx, hbx⟩ := ih h
        exact ⟨x, List.mem_cons_of_mem _ hx, hbx⟩

theorem lookup_eq_none {r : Int} {table : List (Int × Int)} :
    lookup r table = none ↔ ∀ x ∈ segments table, between r x.1.1 x.2.1 = false := by
  induction table with
  | nil => simp [lookup, segments]
  | cons a l ih =>
    cases l with
    | nil => simp [lookup, segments]
    | cons b rest =>
      have hseg : segments (a :: b :: rest) = (a, b) :: segments (b :: rest) := rfl
      rw [lookup, hseg, List.forall_mem_cons, ← ih]
      split <;> simp_all

/-! ### Interpolation (R71) -/

theorem interpolate_left {a b : Int × Int} (h : a.1 ≠ b.1) : interpolate a.1 a b = a.2 := by
  unfold interpolate
  rw [Int.sub_self, Int.zero_mul, Int.add_zero, Int.mul_tdiv_cancel _ (by omega)]

theorem interpolate_comm (r : Int) (a b : Int × Int) : interpolate r a b = interpolate r b a := by
  unfold interpolate
  rw [← Int.neg_tdiv_neg]
  congr 1 <;> ring

theorem interpolate_right {a b : Int × Int} (h : a.1 ≠ b.1) : interpolate b.1 a b = b.2 := by
  rw [interpolate_comm, interpolate_left h.symm]

/-- An interpolated temperature lies between those of its breakpoints: the line does, and truncation keeps to whole ends. -/
theorem interpolate_bounds {r lo hi : Int} {a b : Int × Int} (hne : a.1 ≠ b.1) (hr : between r a.1 b.1 = true)
    (ha : lo ≤ a.2 ∧ a.2 ≤ hi) (hb : lo ≤ b.2 ∧ b.2 ≤ hi) :
    lo ≤ interpolate r a b ∧ interpolate r a b ≤ hi := by
  wlog hlt : a.1 < b.1 generalizing a b
  · rw [interpolate_comm]
    rw [between_iff, min_comm, max_comm, ← between_iff] at hr
    exact this hne.symm hr hb ha (by omega)
  obtain ⟨hra, hrb⟩ := (between_iff ..).1 hr
  have hra : 0 ≤ r - a.1 := by omega
  have hrb : 0 ≤ b.1 - r := by omega
  have hd : 0 < b.1 - a.1 := by omega
  have hlo : lo * (b.1 - a.1) ≤ a.2 * (b.1 - a.1) + (r - a.1) * (b.2 - a.2) := by nlinarith
  have hhi : a.2 * (b.1 - a.1) + (r - a.1) * (b.2 - a.2) ≤ hi * (b.1 - a.1) := by nlinarith
  have hlo' := Int.tdiv_le_tdiv hd hlo
  have hhi' := Int.tdiv_le_tdiv hd hhi
  rw [Int.mul_tdiv_cancel _ hd.ne'] at hlo' hhi'
  exact ⟨hlo', hhi'⟩

/-! ### The two tables (4.3) -/

/-- Segment x ends at the breakpoint at which y begins, and but for it the two lie apart. -/
abbrev Precedes (x y : (Int × Int) × (Int × Int)) : Prop :=
  x.2 = y.1 ∧ (max x.1.1 x.2.1 = min y.1.1 y.2.1 ∨ max y.1.1 y.2.1 = min x.1.1 x.2.1)

/-- No resistance lies in both segments. -/
abbrev LieApart (x y : (Int × Int) × (Int × Int)) : Prop :=
  max x.1.1 x.2.1 < min y.1.1 y.2.1 ∨ max y.1.1 y.2.1 < min x.1.1 x.2.1

theorem interpolate_of_precedes {r : Int} {x y : (Int × Int) × (Int × Int)} (hp : Precedes x y)
    (hx : x.1.1 ≠ x.2.1) (hy : y.1.1 ≠ y.2.1) (hrx : between r x.1.1 x.2.1 = true) (hry : between r y.1.1 y.2.1 = true) :
    interpolate r x.1 x.2 = interpolate r y.1 y.2 := by
  obtain ⟨hjoin, hmeet⟩ := hp
  rw [between_iff] at hrx hry
  have hr : r = x.2.1 := by rw [← hjoin] at hmeet hry; omega
  rw [hr, interpolate_right hx, hjoin, interpolate_left hy]

theorem not_between_of_lieApart {r : Int} {x y : (Int × Int) × (Int × Int)} (hp : LieApart x y)
    (hrx : between r x.1.1 x.2.1 = true) : ¬ between r y.1.1 y.2.1 = true := by
  rw [between_iff] at hrx ⊢
  omega

theorem tempTable_ordered (c : Channel) :
    ∀ x ∈ segments (tempTable c), ∀ y ∈ segments (tempTable c), x = y ∨ Precedes x y ∨ Precedes y x ∨ LieApart x y := by
  cases c <;> decide

/-- The lowest temperature of a channel's table, in tenths of a degree. -/
abbrev coldest (c : Channel) : Int := if onRefA c then -500 else -200

/-- The highest temperature of a channel's table, in tenths of a degree. -/
abbrev hottest (c : Channel) : Int := if onRefA c then 4000 else 1500

/-- The lowest resistance of a channel's table, in tenths of an ohm. -/
abbrev lowestOhms (c : Channel) : Int := if onRefA c then 8031 else 1996

/-- The highest resistance of a channel's table, in tenths of an ohm. -/
abbrev highestOhms (c : Channel) : Int := if onRefA c then 24709 else 1053900

theorem tempTable_range (c : Channel) :
    ∀ x ∈ segments (tempTable c), x.1.1 ≠ x.2.1 ∧ (lowestOhms c ≤ min x.1.1 x.2.1 ∧ max x.1.1 x.2.1 ≤ highestOhms c)
      ∧ (coldest c ≤ x.1.2 ∧ x.1.2 ≤ hottest c) ∧ (coldest c ≤ x.2.2 ∧ x.2.2 ≤ hottest c) := by
  cases c <;> decide

/-- The segments that bracket one resistance give it one temperature: two of them share it as their breakpoint. -/
theorem interpolate_unique {c : Channel} {r : Int} {x y : (Int × Int) × (Int × Int)} (hx : x ∈ segments (tempTable c))
    (hy : y ∈ segments (tempTable c)) (hrx : between r x.1.1 x.2.1 = true) (hry : between r y.1.1 y.2.1 = true) :
    interpolate r x.1 x.2 = interpolate r y.1 y.2 := by
  obtain ⟨hnx, -⟩ := tempTable_range c x hx
  obtain ⟨hny, -⟩ := tempTable_range c y hy
  obtain rfl | hp | hp | hp := tempTable_ordered c x hx y hy
  · rfl
  · exact interpolate_of_precedes hp hnx hny hrx hry
  · exact (interpolate_of_precedes hp hny hnx hry hrx).symm
  · exact absurd hry (not_between_of_lieApart hp hrx)

theorem tableTemp_of_between {c : Channel} {r : Int} {x : (Int × Int) × (Int × Int)} (hx : x ∈ segments (tempTable c))
    (hr : between r x.1.1 x.2.1 = true) : tableTemp c r = (interpolate r x.1 x.2, false) := by
  unfold tableTemp
  split
  · next t ht =>
    obtain ⟨y, hy, hry, rfl⟩ := lookup_eq_some ht
    rw [interpolate_unique hy hx hry hr]
  · next hnone => simp [lookup_eq_none.1 hnone x hx] at hr

theorem tableTemp_outside {c : Channel} {r : Int} (h : r < lowestOhms c ∨ highestOhms c < r) :
    tableTemp c r = (clampedTemp c r, true) := by
  have hnone : lookup r (tempTable c) = none := lookup_eq_none.2 fun x hx => by
    obtain ⟨-, hrange, -⟩ := tempTable_range c x hx
    rw [← Bool.not_eq_true, between_iff]
    omega
  unfold tableTemp
  rw [hnone]

theorem clampedTemp_range (c : Channel) (r : Int) : coldest c ≤ clampedTemp c r ∧ clampedTemp c r ≤ hottest c := by
  unfold clampedTemp coldest hottest
  split <;> split <;> omega

theorem tableTemp_range (c : Channel) (r : Int) : coldest c ≤ (tableTemp c r).1 ∧ (tableTemp c r).1 ≤ hottest c := by
  unfold tableTemp
  split
  · next t ht =>
    obtain ⟨x, hx, hr, rfl⟩ := lookup_eq_some ht
    obtain ⟨hne, -, hleft, hright⟩ := tempTable_range c x hx
    exact interpolate_bounds hne hr hleft hright
  · exact clampedTemp_range c r

/-! ### One conversion (R68 to R72) -/

theorem referenceInRange_iff (n : Nat) : referenceInRange n = true ↔ 20000 ≤ n ∧ n ≤ 60000 := by simp [referenceInRange]

theorem convert_of_reference {c : Channel} {nref ns : Nat} (h : nref < 20000 ∨ 60000 < nref) :
    convert c nref ns = { condition := .reference, resistance := none, reading := none } := by
  have hout : referenceInRange nref = false := by rw [← Bool.not_eq_true, referenceInRange_iff]; omega
  simp [convert, hout]

section
variable {c : Channel} {nref ns : Nat}

theorem convert_of_few (href : referenceInRange nref = true) (hns : ns < 16) :
    convert c nref ns = { condition := .opened, resistance := none, reading := none } := by
  simp [convert, href, hns]

theorem convert_of_high (href : referenceInRange nref = true) (hns : 16 ≤ ns)
    (hr : 99999999 < roundHalfUp (referenceValue c * nref) ns) :
    convert c nref ns = { condition := .opened, resistance := none, reading := none } := by
  simp [convert, href, hr, Nat.not_lt.2 hns]

theorem convert_of_low (href : referenceInRange nref = true) (hns : 16 ≤ ns)
    (hr : roundHalfUp (referenceValue c * nref) ns < shortLimit c) :
    convert c nref ns =
      { condition := .short, resistance := some (roundHalfUp (referenceValue c * nref) ns), reading := none } := by
  have hlimit : shortLimit c ≤ 500 := by cases c <;> decide
  simp [convert, href, hr, Nat.not_lt.2 hns, Nat.not_lt.2 (show roundHalfUp (referenceValue c * nref) ns ≤ 99999999 by omega)]

theorem convert_of_valid (href : referenceInRange nref = true) (hns : 16 ≤ ns)
    (hlow : shortLimit c ≤ roundHalfUp (referenceValue c * nref) ns)
    (hhigh : roundHalfUp (referenceValue c * nref) ns ≤ 99999999) :
    convert c nref ns =
      { condition := .valid
        resistance := some (roundHalfUp (referenceValue c * nref) ns)
        reading := some (tableTemp c (roundHalfUp (referenceValue c * nref) ns)) } := by
  simp [convert, href, Nat.not_lt.2 hns, Nat.not_lt.2 hlow, Nat.not_lt.2 hhigh]

end

theorem onRefA_iff (c : Channel) : onRefA c = true ↔ c = .cav ∨ c = .vent := by cases c <;> decide

theorem onRefB_iff (c : Channel) : onRefA c = false ↔ c = .probe ∨ c = .boil := by cases c <;> decide

/-- A resistance outside the table takes the temperature of the table's end on its side (R72). -/
theorem tableTemp_platinum_ends {c : Channel} (hc : onRefA c = true) (n : Nat) :
    (n < 8031 → tableTemp c n = (-500, true)) ∧ (24709 < n → tableTemp c n = (4000, true)) := by
  refine ⟨fun h => ?_, fun h => ?_⟩
  · rw [tableTemp_outside (by rw [lowestOhms, if_pos hc]; omega), clampedTemp, if_pos hc, if_pos (by omega)]
  · rw [tableTemp_outside (by rw [highestOhms, if_pos hc]; omega), clampedTemp, if_pos hc, if_neg (by omega)]

theorem tableTemp_thermistor_ends {c : Channel} (hc : onRefA c = false) (n : Nat) :
    (1053900 < n → tableTemp c n = (-200, true)) ∧ (n < 1996 → tableTemp c n = (1500, true)) := by
  have hc : ¬ onRefA c = true := by simp [hc]
  refine ⟨fun h => ?_, fun h => ?_⟩
  · rw [tableTemp_outside (by rw [highestOhms, if_neg hc]; omega), clampedTemp, if_neg hc, if_pos (by omega)]
  · rw [tableTemp_outside (by rw [lowestOhms, if_neg hc]; omega), clampedTemp, if_neg hc, if_neg (by omega)]

theorem tableTemp_brackets (c : Channel) (r : Int) :
    ∀ x ∈ segments (tempTable c), min x.1.1 x.2.1 ≤ r → r ≤ max x.1.1 x.2.1 →
      tableTemp c r = (interpolate r x.1 x.2, false) :=
  fun _ hx hlow hhigh => tableTemp_of_between hx ((between_iff ..).2 ⟨hlow, hhigh⟩)

/-- A channel's range of temperatures, in the words of O44. -/
theorem tableTemp_in_range (c : Channel) (r : Int) :
    if onRefA c = true then -500 ≤ (tableTemp c r).1 ∧ (tableTemp c r).1 ≤ 4000
    else -200 ≤ (tableTemp c r).1 ∧ (tableTemp c r).1 ≤ 1500 := by
  have hrange := tableTemp_range c r
  unfold coldest hottest at hrange
  split <;> simp_all

/-- Settles O44: a conversion by its five outcomes, a VALID one with the rules of its table. -/
theorem channelsConvert : Obligations.ChannelsConvert := by
  intro c r nref ns
  simp only [← onRefA_iff, ← onRefB_iff]
  refine ⟨fun href => ?_, fun hlo hhi => ?_, rfl⟩
  · rw [convert_of_reference href]; exact ⟨rfl, rfl, rfl⟩
  · have href := (referenceInRange_iff nref).2 ⟨hlo, hhi⟩
    refine ⟨fun hns => ?_, fun hns hr => ?_, fun hns hr => ?_, fun hns hlow hhigh => ?_⟩
    · rw [convert_of_few href hns]; exact ⟨rfl, rfl, rfl⟩
    · rw [convert_of_high href hns hr]; exact ⟨rfl, rfl, rfl⟩
    · rw [convert_of_low href hns hr]; exact ⟨rfl, rfl, rfl⟩
    · rw [convert_of_valid href hns hlow hhigh]
      refine ⟨rfl, rfl, ⟨tableTemp_brackets c _, fun hc => (tableTemp_platinum_ends hc _).1,
        fun hc => (tableTemp_platinum_ends hc _).2, fun hc => (tableTemp_thermistor_ends hc _).1,
        fun hc => (tableTemp_thermistor_ends hc _).2⟩, Option.any_some .., tableTemp_in_range c _, ?_⟩
      cases hw : r.window with
      | none => exact congrArg (fun w => some (pushReading w _)) hw
      | some w => exact congrArg (fun w => some (pushReading w _)) hw

end Sys2Proof.Machine.Conversion
end

section
/-! PROOF. Measurement rounds (O43, O48): what is posted, published values, the round's record, and the mode controller's taking of
a round, each said once, then the rows. -/

namespace Sys2Proof.Machine.Rounds

open Sys2Proof Sys2Proof.Machine

/-! ### Notices posted to every port (R188) -/

theorem buffersKept_of_ports {s t : State} (h : t.ports = s.ports) : BuffersKept s t := fun q => by
  rw [BufferKept, h]; exact ⟨rfl, rfl, rfl, rfl⟩

theorem posted_of_ports {s t : State} (h : t.ports = s.ports) : Posted [] s t := fun q => by rw [h]; rfl

theorem buffersKept_postAll (k : Notice) {s t : State} (h : t.ports = s.ports) : BuffersKept s (postAll k t) := fun q => by
  simp [BufferKept, postAll, h]

theorem posted_postAll (k : Notice) {s t : State} (h : t.ports = s.ports) : Posted [k] s (postAll k t) := fun q => by
  simp [postAll, h]

theorem sameExcept_mapMeas (f : Meas → Meas) (s : State) : SameExcept [.meas] s (s.mapMeas f) := by
  intro b hb
  cases b
  case meas => exact absurd List.mem_cons_self hb
  all_goals rfl

/-! ### Published values (R75, R76, R78) -/

/-- Rounding half away from zero keeps the sign and rounds the magnitude half up. -/
theorem meanOfFour_eq (n : Int) : meanOfFour n = Int.sign n * ((n.natAbs + 2) / 4) := by
  unfold meanOfFour
  split
  · next h =>
    obtain rfl | h := h.eq_or_lt
    · rfl
    · rw [Int.sign_eq_one_of_pos h]; omega
  · next h => rw [Int.sign_eq_neg_one_of_neg (by omega)]; omega

theorem publishedOf_isSome_iff (m : Meas) (c : Channel) :
    (publishedOf m c).isSome = true ↔ (m.channels.get c).window.isSome = true ∧ (c = .probe → m.present = true) := by
  unfold publishedOf recordValue
  split
  · next h => simp [h.1, h.2]
  · next h => simp_all

theorem publishedOf_of_empty {m : Meas} {c : Channel} (h : (m.channels.get c).window = none) : publishedOf m c = none := by
  simp [publishedOf, recordValue, h]

theorem publishedOf_of_window {m : Meas} {c : Channel} {w : Window} (h : (m.channels.get c).window = some w) :
    publishedOf m c =
      if c = .probe ∧ m.present = false then none
      else some (Int.sign (w.w0 + w.w1 + w.w2 + w.w3) * (((w.w0 + w.w1 + w.w2 + w.w3).natAbs + 2) / 4)
        + (m.channels.get c).offset) := by
  simp [publishedOf, recordValue, h, meanOfFour_eq, Window.sum]

/-- A conversion gives a reading exactly when its condition is VALID (R70, R75). -/
theorem convert_reading_isSome (c : Channel) (nref ns : Nat) :
    (convert c nref ns).reading.isSome = true ↔ (convert c nref ns).condition = .valid := by
  unfold convert
  simp only
  split_ifs <;> simp

/-! ### The round's record (R65, R67) -/

/-- The round's own record, before it is handed on. -/
abbrev record (k : RoundCounts) (s : State) : Meas := s.meas.measured k s.sched.volts

/-- The record handed on: the result and what each block owes are new in it. -/
def handedOn (k : RoundCounts) (beganAwake : Bool) (s : State) : Meas :=
  { record k s with
    latest := {
      readings := (record k s).readings
      beganAwake := beganAwake
      awake := s.modes.mode ≠ .standby
      boilerFrame := frameUsesBoiler s
      budget := s.sched.inputs s.run.options.eco }
    owed := {
      judgement := s.run.state = .preparing || s.run.state = .running
      closure := (record k s).present && !s.meas.present
      fault := true
      budget := true
      drain := true
      mode := true } }

theorem publishRound_eq (k : RoundCounts) (beganAwake : Bool) (s : State) :
    publishRound k beganAwake s =
      if s.meas.differs (record k s) then postAll .sensorChanged (s.mapMeas fun _ => handedOn k beganAwake s)
      else s.mapMeas fun _ => handedOn k beganAwake s := rfl

/-- SENSOR_CHANGED is called for by a change of a condition or of the presence (R78). -/
theorem differs_iff (m m2 : Meas) :
    m.differs m2 = true ↔
      (∃ c, (m2.channels.get c).condition ≠ (m.channels.get c).condition) ∨ m2.present ≠ m.present := by
  have hall : (∃ c, (m2.channels.get c).condition ≠ (m.channels.get c).condition) ↔
      m.channels.cav.condition ≠ m2.channels.cav.condition ∨ m.channels.vent.condition ≠ m2.channels.vent.condition
        ∨ m.channels.probe.condition ≠ m2.channels.probe.condition
        ∨ m.channels.boil.condition ≠ m2.channels.boil.condition := by
    constructor
    · rintro ⟨c, hc⟩
      cases c
      · exact .inl hc.symm
      · exact .inr (.inl hc.symm)
      · exact .inr (.inr (.inl hc.symm))
      · exact .inr (.inr (.inr hc.symm))
    · rintro (h | h | h | h)
      · exact ⟨.cav, h.symm⟩
      · exact ⟨.vent, h.symm⟩
      · exact ⟨.probe, h.symm⟩
      · exact ⟨.boil, h.symm⟩
  rw [hall, ne_comm (a := m2.present)]
  simp [Meas.differs, or_assoc]

section
variable (k : RoundCounts) (beganAwake : Bool) (s : State)

theorem publishRound_meas : (publishRound k beganAwake s).meas = handedOn k beganAwake s := by
  rw [publishRound_eq]; split <;> simp

theorem publishRound_sameExcept : SameExcept [.ports, .meas] s (publishRound k beganAwake s) := by
  rw [publishRound_eq]
  intro b hb
  split <;> cases b <;> simp [Block.same] at hb ⊢

theorem publishRound_posted :
    (Posted [] s (publishRound k beganAwake s) ∨ Posted [.sensorChanged] s (publishRound k beganAwake s))
      ∧ BuffersKept s (publishRound k beganAwake s) := by
  rw [publishRound_eq]
  split
  · exact ⟨.inr (posted_postAll _ rfl), buffersKept_postAll _ rfl⟩
  · exact ⟨.inl (posted_of_ports rfl), buffersKept_of_ports rfl⟩

theorem handedOn_channel (c : Channel) :
    (handedOn k beganAwake s).channels.get c = (s.meas.channels.get c).after (conversionOf k c) :=
  PerChannel.get_ofFun _ c

/-- After a round a channel has a window exactly when its condition is VALID (R74, R75). -/
theorem handedOn_window_isSome (c : Channel) :
    ((handedOn k beganAwake s).channels.get c).window.isSome = true ↔
      ((handedOn k beganAwake s).channels.get c).condition = .valid := by
  rw [handedOn_channel, ChannelRec.after, Option.isSome_map]
  exact convert_reading_isSome ..

theorem handedOn_reading (c : Channel) :
    (handedOn k beganAwake s).latest.readings.get c =
      { condition := ((handedOn k beganAwake s).channels.get c).condition
        value := publishedOf (handedOn k beganAwake s) c } :=
  PerChannel.get_ofFun _ c

theorem publishRound_sensorChanged
    (h : (∃ c, ((handedOn k beganAwake s).channels.get c).condition ≠ (s.meas.channels.get c).condition)
      ∨ (handedOn k beganAwake s).present ≠ s.meas.present) :
    Holds .sensorChanged (publishRound k beganAwake s) := by
  rw [publishRound_eq, if_pos ((differs_iff s.meas (record k s)).2 h)]
  exact FillAttempts.holds_postAll _ _

/-- Presence turns at the second round in a row that shows the change (R77). -/
theorem handedOn_present :
    (handedOn k beganAwake s).present =
      if s.meas.present then !((conversionOf k .probe).condition = .opened && decide (1 ≤ s.meas.openCount))
      else ((conversionOf k .probe).condition = .valid && decide (1 ≤ s.meas.validCount)) := by
  have hbump : ∀ n, bump n = 2 ↔ 1 ≤ n := fun n => by unfold bump; omega
  show presentAfter s.meas (conversionOf k .probe).condition = _
  unfold presentAfter openCountAfter validCountAfter
  split <;> split <;> simp_all

theorem handedOn_boilerFrame :
    (handedOn k beganAwake s).latest.boilerFrame = decide (s.sched.frameRunning = true ∧
      (s.demand.steam = .admitted
        ∨ (s.run.phase = .steps ∧ (builtinProgram s.run.kind)[s.run.stepIdx]? = some .soak))) := by
  have hsoak : currentBuiltin s = some .soak ↔
      s.run.phase = .steps ∧ (builtinProgram s.run.kind)[s.run.stepIdx]? = some .soak := by simp [currentBuiltin]
  show frameUsesBoiler s = _
  simp [frameUsesBoiler, ← hsoak, Bool.or_comm]

end

theorem referenceInRange_eq (n : Nat) : referenceInRange n = decide (20000 ≤ n ∧ n ≤ 60000) := (Bool.decide_and ..).symm

theorem refCountOf_eq (k : RoundCounts) (c : Channel) :
    refCountOf k c = if c = .cav ∨ c = .vent then k.refA else k.refB := by
  unfold refCountOf
  simp only [Conversion.onRefA_iff]

theorem roundPeriod_eq (m : ApplianceMode) : roundPeriod m = if m = .standby then 8 else 1 := by cases m <;> rfl

/-! ### The rows -/

theorem exec_roundBegin_begins {s : State} (h : s.meas.inProgress = none) : exec .roundBegin s = .next (beginRound s) :=
  congrArg Host.Outcome.next (if_neg (by simp [h]))

theorem exec_roundBegin_waits {s : State} (h : s.meas.inProgress ≠ none) : exec .roundBegin s = .next s :=
  congrArg Host.Outcome.next (if_pos (Option.isSome_iff_ne_none.2 h))

theorem exec_roundComplete {k : RoundCounts} {s : State} {awake : Bool} (h : s.meas.inProgress = some awake) :
    exec (.roundComplete k) s = .next (publishRound k awake s) := by
  show Host.Outcome.next (roundCompleted k s) = _
  rw [roundCompleted, h]

theorem roundBegin_begins_or_waits (s : State) : ∃ t, exec .roundBegin s = .next t ∧ SameExcept [.meas] s t
    ∧ t.meas =
        if s.meas.inProgress = none then
          { s.meas with
            inProgress := some (s.modes.mode ≠ .standby)
            schedule := .after (if s.modes.mode = .standby then 8 else 1) }
        else s.meas := by
  by_cases h : s.meas.inProgress = none
  · refine ⟨_, exec_roundBegin_begins h, sameExcept_mapMeas _ s, ?_⟩
    rw [if_pos h, ← roundPeriod_eq]; rfl
  · refine ⟨s, exec_roundBegin_waits h, fun b _ => by cases b <;> rfl, ?_⟩
    rw [if_neg h]

/-- Settles O43: a round begins, and what a completed one hands on, field by field. -/
theorem roundsBeginAndPublish : Obligations.RoundsBeginAndPublish := by
  refine ⟨roundBegin_begins_or_waits, fun k s hin => ?_⟩
  obtain ⟨awake, hawake⟩ := Option.ne_none_iff_exists'.1 hin
  refine ⟨publishRound k awake s, exec_roundComplete hawake, ?_⟩
  simp only [published, publishRound_meas]
  refine ⟨rfl, rfl, rfl, rfl, ?refA, ?refB, ?channels, ?values, ?means, ?readings,
    ⟨hawake.symm, rfl, handedOn_boilerFrame k awake s, rfl⟩, ?owed, ?present, ⟨rfl, rfl⟩,
    (publishRound_posted k awake s).1, (publishRound_posted k awake s).2, publishRound_sensorChanged k awake s,
    publishRound_sameExcept k awake s⟩
  case refA => exact congrArg _ (referenceInRange_eq k.refA)
  case refB => exact congrArg _ (referenceInRange_eq k.refB)
  case channels => exact fun c => by rw [handedOn_channel, conversionOf, refCountOf_eq]
  case values => exact fun c => by rw [publishedOf_isSome_iff, handedOn_window_isSome]
  case means =>
    intro c
    split
    · next h => exact publishedOf_of_empty h
    · next h => exact publishedOf_of_window h
  case readings => exact fun c => by rw [handedOn_reading]; exact ⟨rfl, rfl⟩
  case owed => simp [handedOn]
  case present => exact handedOn_present k awake s

/-! ### The mode controller (R81, R166, R171) -/

section
variable {c : ModeCtl} {beganAwake : Bool} {cav : Option Int}

theorem afterRound_cooled (hm : c.mode = .afterRun)
    (h : c.cooling = some .cooled ∨ c.cooling = some .cooling ∧ ∃ v ∈ cav, v < 700) :
    c.afterRound beganAwake cav = { c with fresh := c.fresh || beganAwake, cooling := some .cooled } := by
  unfold ModeCtl.afterRound
  obtain hcooled | ⟨hcooling, v, hv, hlow⟩ := h
  · simp [hcooled]
  · rw [if_pos ⟨hm, hcooling, (Option.any_eq_true ..).2 ⟨v, hv, decide_eq_true hlow⟩⟩]

theorem afterRound_keeps_cooling (h : c.mode = .afterRun → ∀ v ∈ cav, 700 ≤ v) :
    c.afterRound beganAwake cav = { c with fresh := c.fresh || beganAwake } := by
  unfold ModeCtl.afterRound
  rw [if_neg]
  rintro ⟨hm, -, hlow⟩
  obtain ⟨v, hv, hlt⟩ := (Option.any_eq_true ..).1 hlow
  exact absurd (of_decide_eq_true hlt) (Int.not_lt.2 (h hm v hv))

end

section
variable {s : State}

theorem modeRound_elsewhere (hm : s.modes.mode ≠ .afterRun) :
    modeRound s = s.mapModes fun c => { c with fresh := c.fresh || s.meas.latest.beganAwake } := by
  unfold modeRound
  simp only [State.mapModes, afterRound_keeps_cooling (fun h => absurd h hm)]
  rw [coolingFan, if_neg hm, leaveAfterRun, if_neg (fun h => hm h.1)]

/-- COOLED stops the fan and, with no drain owed, ends AFTER_RUN (R171). -/
theorem modeRound_cooled (hm : s.modes.mode = .afterRun)
    (h : s.modes.cooling = some .cooled
      ∨ s.modes.cooling = some .cooling ∧ ∃ v ∈ s.meas.latest.readings.cav.value, v < 700) :
    modeRound s =
      if drainOwed s = true then
        s.mapModes fun c => { c with fresh := c.fresh || s.meas.latest.beganAwake, cooling := some .cooled, fanOut := 0 }
      else
        postAll .modeChanged (s.mapModes fun c =>
          { c with
            fresh := c.fresh || s.meas.latest.beganAwake
            mode := .ready
            idle := some 600
            cooling := none
            fanOut := 0 }) := by
  unfold modeRound
  simp only [State.mapModes, afterRound_cooled hm h]
  rw [coolingFan, if_pos hm, leaveAfterRun]
  cases hd : drainOwed s
  · rw [if_pos ⟨hm, rfl, hd⟩, if_neg (by simp)]; rfl
  · rw [if_neg (fun ⟨_, _, hnot⟩ => absurd (hnot.symm.trans hd) Bool.false_ne_true), if_pos rfl]; rfl

theorem modeRound_cooling (hm : s.modes.mode = .afterRun) (hc : s.modes.cooling = some .cooling)
    (h : ∀ v ∈ s.meas.latest.readings.cav.value, 700 ≤ v) :
    modeRound s = s.mapModes fun c =>
      { c with
        fresh := c.fresh || s.meas.latest.beganAwake
        fanOut := if s.pins.doorOpen = false ∧ (∃ v ∈ s.meas.latest.readings.cav.value, 700 < v) then 40 else 0 } := by
  unfold modeRound
  simp only [State.mapModes, afterRound_keeps_cooling (fun _ => h)]
  rw [coolingFan, if_pos hm, leaveAfterRun, if_neg]
  · simp [State.mapModes, hc, Option.any_eq_true]
  · simp [hc]

theorem coolingFan_fresh (cav : Option Int) (s : State) : (coolingFan cav s).modes.fresh = s.modes.fresh := by
  unfold coolingFan; split <;> simp

theorem leaveAfterRun_fresh (s : State) : (leaveAfterRun s).modes.fresh = s.modes.fresh := by
  unfold leaveAfterRun; split <;> simp

theorem modeRound_fresh (s : State) : (modeRound s).modes.fresh = (s.modes.fresh || s.meas.latest.beganAwake) := by
  rw [modeRound, leaveAfterRun_fresh, coolingFan_fresh]; rfl

theorem modeRound_meas (s : State) : (modeRound s).meas = s.meas := by simp [modeRound]

end

/-- The mode controller owes the round no longer. -/
def modeTaken (s : State) : State := s.mapMeas fun m => { m with owed := { m.owed with mode := false } }

theorem exec_modeRoundUpdate {s : State} (h : s.meas.owed.mode = true) :
    exec .modeRoundUpdate s = .next (modeRound (modeTaken s)) :=
  congrArg Host.Outcome.next (if_pos h)

theorem modeTaken_sameExcept (s : State) : SameExcept [.meas, .modes, .ports] s (modeRound (modeTaken s)) := by
  intro b hb
  cases b <;> simp [Block.same, modeRound, modeTaken] at hb ⊢

/-- Settles O48: outside AFTER_RUN, in AFTER_RUN with the oven cooled, and in AFTER_RUN still cooling. -/
theorem modeFollowsTheRound : Obligations.ModeFollowsTheRound := by
  intro s howed
  refine ⟨_, exec_modeRoundUpdate howed, modeRound_fresh _, fun hm => ?elsewhere, fun hm hcooled => ?cooled,
    fun hm hc h => ?cooling, modeRound_meas _, modeTaken_sameExcept s⟩
  case elsewhere =>
    rw [modeRound_elsewhere (s := modeTaken s) hm]
    exact ⟨rfl, posted_of_ports rfl⟩
  case cooled =>
    have howes : drainOwed (modeTaken s) = drainOwed s := rfl
    rw [modeRound_cooled (s := modeTaken s) hm hcooled, howes]
    split
    · exact ⟨hm, rfl, rfl, posted_of_ports rfl⟩
    · exact ⟨rfl, rfl, rfl, rfl, posted_postAll _ rfl⟩
  case cooling =>
    rw [modeRound_cooling (s := modeTaken s) hm hc h]
    exact ⟨hm, hc, posted_of_ports rfl, rfl⟩

end Sys2Proof.Machine.Rounds
end

section
/-! PROOF. The calibration command (O29): what a port holds once its command is answered, the save request, and the one offset that
SET_CAL writes. -/

namespace Sys2Proof.Machine.Calibration

open Sys2Proof Sys2Proof.Machine

/-! ### Answers (R183, R185, R186) -/

section
variable (p : Port) (echo : Byte) (st : Status) (payload : List Byte) {s t : State}

theorem heardBy_received (s : State) :
    ((heardBy p s).ports.get p).held = [] ∧ ((heardBy p s).ports.get p).nacked = false := by
  unfold heardBy heard
  split <;> simp [takeFrame, postAll]

theorem respond_answered (h : t.ports = (heardBy p s).ports) :
    Answered p echo st payload (heardBy p s) (respond p echo st payload t) := by
  obtain ⟨hheld, hnacked⟩ := heardBy_received p s
  refine ⟨by simp [respond], by simp [respond, h, hheld], by simp [respond, h, hnacked], by simp [respond, h], fun q hq => ?_⟩
  simp [BufferKept, respond, h, hq]

theorem respond_posted (h : t.ports = s.ports) : Posted [] s (respond p echo st payload t) := fun q => by
  simp only [respond, mapPorts_blocks, PerPort.get_modify, h]
  split <;> rfl

theorem respond_sameExcept {bs : List Block} (hp : Block.ports ∈ bs) (h : SameExcept bs s t) :
    SameExcept bs s (respond p echo st payload t) := by
  intro b hb
  have hsame := h b hb
  cases b
  case ports => exact absurd hp hb
  all_goals simpa [Block.same] using hsame

/-- A command its owner refuses is answered and does nothing else. -/
theorem respond_onlyAnswered : OnlyAnswered p echo st payload (heardBy p s) (respond p echo st payload (heardBy p s)) :=
  ⟨respond_answered p echo st payload rfl, respond_posted p echo st payload rfl,
    respond_sameExcept p echo st payload List.mem_cons_self fun b _ => by cases b <;> rfl⟩

end

/-! ### Saves (R174) -/

theorem liveRecord_requestSave (s : State) : liveRecord (requestSave s) = liveRecord s := by simp [liveRecord]

theorem liveRecord_respond (p : Port) (echo : Byte) (st : Status) (payload : List Byte) (s : State) :
    liveRecord (respond p echo st payload s) = liveRecord s := by simp [liveRecord]

/-- An owner's request for a save stands in the state its command is answered from. -/
theorem respond_saveRequested (p : Port) (echo : Byte) (st : Status) (payload : List Byte) {s t : State}
    (h : t.store = s.store) : SaveRequested s (respond p echo st payload (requestSave t)) := by
  unfold SaveRequested
  rw [liveRecord_respond, liveRecord_requestSave]
  cases hf : s.store.flight <;> simp [requestSave, beginSave, h, hf]

/-! ### SET_CAL (R73) -/

/-- The offset of channel c replaced. -/
def calibrate (c : Channel) (offset : Int) (s : State) : State :=
  s.mapMeas fun m => { m with channels := m.channels.modify c fun r => { r with offset := offset } }

theorem setCalReply_unknown {channel : Byte} (offset : Byte) (s : State) (h : channelOf channel = none) :
    setCalReply channel offset s = refuse .range s := by
  rw [setCalReply, h]

theorem setCalReply_outside {channel offset : Byte} {c : Channel} (s : State) (hc : channelOf channel = some c)
    (h : offset.toInt < -50 ∨ 50 < offset.toInt) : setCalReply channel offset s = refuse .range s := by
  rw [setCalReply, hc]
  exact if_pos h

theorem setCalReply_inside {channel offset : Byte} {c : Channel} (s : State) (hc : channelOf channel = some c)
    (h : ¬ (offset.toInt < -50 ∨ 50 < offset.toInt)) :
    setCalReply channel offset s = done .ok (requestSave (calibrate c offset.toInt s)) := by
  rw [setCalReply, hc]
  exact if_neg h

theorem exec_setCal (channel offset : Byte) {s : State} {st : Status} {u : State}
    (h : setCalReply channel offset (heardBy .service s) = { status := st, payload := [], state := u }) :
    exec (.setCal .service channel offset) s = .next (respond .service 0x62 st [] u) := by
  show Host.Outcome.next (respond .service 0x62 (setCalReply channel offset (heardBy .service s)).status
    (setCalReply channel offset (heardBy .service s)).payload (setCalReply channel offset (heardBy .service s)).state) = _
  rw [h]

/-- A wake leaves the channels and the probe's presence as they were (R66, R81). -/
theorem heardBy_readings (p : Port) (s : State) :
    (heardBy p s).meas.channels = s.meas.channels ∧ (heardBy p s).meas.present = s.meas.present := by
  unfold heardBy heard
  split <;> simp [wakeRounds]

theorem publishedOf_of_recordsAgree {m m' : Meas} {d : Channel} (hp : m'.present = m.present)
    (hc : m'.channels.get d = m.channels.get d) : publishedOf m' d = publishedOf m d := by
  unfold publishedOf; rw [hp, hc]

/-- A published value follows its channel's offset, over the window as it stands (R73, R76). -/
theorem publishedOf_of_offset {m m' : Meas} {c : Channel} {offset v : Int} (hp : m'.present = m.present)
    (hc : m'.channels.get c = { m.channels.get c with offset := offset }) (hv : publishedOf m c = some v) :
    publishedOf m' c = some (v - (m.channels.get c).offset + offset) := by
  unfold publishedOf recordValue at hv ⊢
  rw [hp, hc]
  split at hv
  · cases hv
  · next h =>
    rw [if_neg h]
    obtain ⟨w, hw, rfl⟩ := Option.map_eq_some_iff.1 hv
    simp [hw]

/-- What the command leaves once its owner has taken it. -/
def calibrated (c : Channel) (offset : Int) (s : State) : State :=
  respond .service 0x62 .ok [] (requestSave (calibrate c offset (heardBy .service s)))

section
variable (c : Channel) (offset : Int) (s : State)

theorem calibrated_meas :
    (calibrated c offset s).meas =
      { (heardBy .service s).meas with
        channels := s.meas.channels.modify c fun r => { r with offset := offset } } := by
  rw [← (heardBy_readings .service s).1]
  simp [calibrated, calibrate]

theorem calibrated_sameExcept : SameExcept [.ports, .meas, .store] (heardBy .service s) (calibrated c offset s) :=
  respond_sameExcept _ _ _ _ List.mem_cons_self fun b hb => by
    cases b <;> simp [Block.same, calibrate] at hb ⊢

end

/-- Settles O29: SET_CAL refused by its two checks, and taken. -/
theorem calibrationIsSet : Obligations.CalibrationIsSet := by
  intro channel offset s
  cases hc : channelOf channel with
  | none => exact ⟨_, exec_setCal channel offset (setCalReply_unknown offset _ hc), respond_onlyAnswered ..⟩
  | some c =>
    by_cases hr : offset.toInt < -50 ∨ 50 < offset.toInt
    · refine ⟨_, exec_setCal channel offset (setCalReply_outside _ hc hr), ?_⟩
      simp only [if_pos hr]
      exact respond_onlyAnswered ..
    · refine ⟨calibrated c offset.toInt s, exec_setCal channel offset (setCalReply_inside _ hc hr), ?_⟩
      have hmeas := calibrated_meas c offset.toInt s
      have hpresent : (calibrated c offset.toInt s).meas.present = s.meas.present := by
        rw [hmeas]; exact (heardBy_readings .service s).2
      have hget : ∀ d, (calibrated c offset.toInt s).meas.channels.get d =
          if d = c then { s.meas.channels.get d with offset := offset.toInt } else s.meas.channels.get d := fun d => by
        rw [hmeas]; exact PerChannel.get_modify ..
      simp only [if_neg hr]
      refine ⟨respond_answered _ _ _ _ ?_, respond_posted _ _ _ _ ?_, respond_saveRequested _ _ _ _ rfl,
        calibrated_sameExcept c offset.toInt s, hget, ?_,
        fun d hd => publishedOf_of_recordsAgree hpresent (by rw [hget, if_neg hd]),
        fun v hv => publishedOf_of_offset hpresent (by rw [hget, if_pos rfl]) hv⟩
      · simp [calibrate]
      · simp [calibrate]
      · rw [hmeas]

end Sys2Proof.Machine.Calibration
end

section
/-! PROOF. The scale account and the steam gate (O26, O38): notices posted one after another, steam withdrawn within a frame, a
change of the scale state, and from these SCALE_SET and the end of a COOK fill. -/

namespace Sys2Proof.Machine.ScaleGate

open Sys2Proof Sys2Proof.Machine
open FillAttempts Rounds Calibration

/-! ### Notices one after another (R188) -/

theorem posted_append {ks ls : List Notice} {s t u : State} (h : Posted ks s t) (h' : Posted ls t u) :
    Posted (ks ++ ls) s u := fun q => by rw [h' q, h q, List.foldl_append]

theorem onlyPosted_append {ks ls : List Notice} {s t u : State} (h : OnlyPosted ks s t) (h' : OnlyPosted ls t u) :
    OnlyPosted (ks ++ ls) s u := by
  obtain ⟨hbuffers, hposted⟩ := h
  obtain ⟨hbuffers', hposted'⟩ := h'
  refine ⟨fun q => ?_, posted_append hposted hposted'⟩
  obtain ⟨hresp, hheld, hnacked, hwrite⟩ := hbuffers q
  obtain ⟨hresp', hheld', hnacked', hwrite'⟩ := hbuffers' q
  exact ⟨hresp'.trans hresp, hheld'.trans hheld, hnacked'.trans hnacked, hwrite'.trans hwrite⟩

theorem onlyPosted_of_ports {s t : State} (h : t.ports = s.ports) : OnlyPosted [] s t :=
  ⟨buffersKept_of_ports h, posted_of_ports h⟩

theorem onlyPosted_postAll (k : Notice) (s : State) : OnlyPosted [k] s (postAll k s) :=
  ⟨buffersKept_postAll k rfl, posted_postAll k rfl⟩

theorem mem_addNotice {k k' : Notice} {l : List Notice} : k ∈ addNotice k' l ↔ k ∈ l ∨ k = k' := by
  unfold addNotice
  split
  · next h => exact ⟨.inl, fun hk => hk.elim id fun heq => heq ▸ h⟩
  · simp

/-- After kinds were posted a set holds what it held, and these kinds. -/
theorem mem_notices_of_posted {ks : List Notice} {s t : State} (h : Posted ks s t) (q : Port) (k : Notice) :
    k ∈ (t.ports.get q).notices ↔ k ∈ (s.ports.get q).notices ∨ k ∈ ks := by
  rw [h q]
  clear h
  generalize (s.ports.get q).notices = l
  induction ks generalizing l with
  | nil => simp
  | cons k' ks ih => rw [List.foldl_cons, ih, mem_addNotice, List.mem_cons, or_assoc]

theorem holds_of_posted {ks : List Notice} {k : Notice} {s t : State} (h : Posted ks s t) (hk : k ∈ ks) : Holds k t :=
  fun q => (mem_notices_of_posted h q k).2 (.inr hk)

theorem unreported_of_posted {ks : List Notice} {s t : State} (h : Posted ks s t) (hk : Notice.steamWithheld ∉ ks) :
    SteamUnreported s t := fun q => by simp [mem_notices_of_posted h q, hk]

/-! ### Steam withdrawn within a frame (R94, R111) -/

/-- A frame ADMITTED to steam is running in RUNNING. -/
abbrev Steaming (s : State) : Prop :=
  s.run.state = .running ∧ s.sched.frameRunning = true ∧ s.demand.steam = .admitted

theorem reportWithheld_demand (s : State) : (reportWithheld s).demand = { s.demand with reported := true } := by
  unfold reportWithheld
  split
  · next h => simp only [← h]
  · rfl

theorem reportWithheld_onlyPosted (s : State) :
    OnlyPosted (if s.demand.reported then [] else [.steamWithheld]) s (reportWithheld s) := by
  unfold reportWithheld
  by_cases hr : s.demand.reported = true
  · rw [if_pos hr, if_pos hr]
    exact onlyPosted_of_ports rfl
  · rw [if_neg hr, if_neg hr]
    exact onlyPosted_postAll .steamWithheld _

theorem steamGateClosing_elsewhere {s : State} (h : ¬ Steaming s) : steamGateClosing s = s := if_neg h

theorem steamGateClosing_withdrawn {s : State} (h : Steaming s) : SteamWithdrawn s (steamGateClosing s) := by
  obtain ⟨_, hframe, _⟩ := id h
  unfold steamGateClosing
  rw [if_pos h]
  exact ⟨by simp [Sched.withdrawBoiler, hframe], reportWithheld_demand _⟩

theorem steamGateClosing_onlyPosted {s : State} (h : Steaming s) :
    OnlyPosted (if s.demand.reported then [] else [.steamWithheld]) s (steamGateClosing s) := by
  unfold steamGateClosing
  rw [if_pos h]
  exact reportWithheld_onlyPosted ((s.mapSched Sched.withdrawBoiler).mapDemand fun d => { d with steam := .withheld })

/-- A withdrawal speaks of the scheduler and the demand unit alone. -/
theorem steamWithdrawn_of_same {s s' t t' : State} (h : SteamWithdrawn s t) (hs : s'.sched = s.sched)
    (hd : s'.demand = s.demand) (ht : t'.sched = t.sched) (he : t'.demand = t.demand) : SteamWithdrawn s' t' := by
  unfold SteamWithdrawn at h ⊢
  rwa [hs, hd, ht, he]

/-- The stored settings outlive a withdrawal, which touches no configured field of an entry. -/
theorem liveRecord_steamGateClosing (s : State) : liveRecord (steamGateClosing s) = liveRecord s := by
  by_cases h : Steaming s
  · obtain ⟨hsched, _⟩ := steamGateClosing_withdrawn h
    simp [liveRecord, hsched, PerLoad.map]
  · rw [steamGateClosing_elsewhere h]

theorem liveRecord_postAll (k : Notice) (s : State) : liveRecord (postAll k s) = liveRecord s := by simp [liveRecord]

theorem liveRecord_noteGate (before : Bool) (s : State) : liveRecord (noteGate before s) = liveRecord s := by
  unfold noteGate
  split
  · rfl
  · split
    · rw [liveRecord_steamGateClosing, liveRecord_postAll]
    · exact liveRecord_postAll _ s

/-! ### A change of the scale state (R135) -/

theorem noteScale_same {before : ScaleState} {s : State} (h : scaleState s = before) : noteScale before s = s := if_pos h

/-- A change of the scale state reaches the loads and the demand unit where it becomes BLOCK in a steaming frame, and nowhere else. -/
theorem noteScale_loads (before : ScaleState) (s : State) :
    if scaleState s = .block ∧ before ≠ .block ∧ Steaming s then SteamWithdrawn s (noteScale before s)
    else (noteScale before s).sched = s.sched ∧ (noteScale before s).demand = s.demand := by
  unfold noteScale
  by_cases hsame : scaleState s = before
  · rw [if_pos hsame, if_neg fun h => h.2.1 (hsame ▸ h.1)]
    exact ⟨rfl, rfl⟩
  · rw [if_neg hsame]
    by_cases hblock : scaleState s = .block
    · rw [if_pos hblock]
      by_cases hsteam : Steaming s
      · rw [if_pos ⟨hblock, fun h => hsame (hblock.trans h.symm), hsteam⟩]
        exact steamGateClosing_withdrawn (s := postAll .waterChanged s) hsteam
      · rw [if_neg fun h => hsteam h.2.2, steamGateClosing_elsewhere (s := postAll .waterChanged s) hsteam]
        exact ⟨rfl, rfl⟩
    · rw [if_neg hblock, if_neg fun h => hblock h.1]
      exact ⟨rfl, rfl⟩

/-- What a change of the scale state posts: WATER_CHANGED, and STEAM_WITHHELD under the mark where it withdraws steam (R93, R135). -/
def scaleNotices (before : ScaleState) (s : State) : List Notice :=
  if scaleState s = before then []
  else .waterChanged ::
    if scaleState s = .block ∧ Steaming s then (if s.demand.reported then [] else [.steamWithheld]) else []

theorem noteScale_onlyPosted (before : ScaleState) (s : State) :
    OnlyPosted (scaleNotices before s) s (noteScale before s) := by
  have hpost := onlyPosted_postAll .waterChanged s
  unfold noteScale scaleNotices
  by_cases hsame : scaleState s = before
  · rw [if_pos hsame, if_pos hsame]
    exact onlyPosted_of_ports rfl
  · rw [if_neg hsame, if_neg hsame]
    by_cases hblock : scaleState s = .block
    · rw [if_pos hblock]
      by_cases hsteam : Steaming s
      · have hclose := steamGateClosing_onlyPosted (s := postAll .waterChanged s) hsteam
        rw [if_pos ⟨hblock, hsteam⟩]
        exact onlyPosted_append hpost hclose
      · rw [if_neg fun h => hsteam h.2, steamGateClosing_elsewhere (s := postAll .waterChanged s) hsteam]
        exact hpost
    · rw [if_neg hblock, if_neg fun h => hblock h.1]
      exact hpost

theorem waterChanged_mem_scaleNotices {before : ScaleState} {s : State} (h : scaleState s ≠ before) :
    Notice.waterChanged ∈ scaleNotices before s := by simp [scaleNotices, h]

theorem steamWithheld_mem_scaleNotices {before : ScaleState} {s : State} (h : scaleState s = .block) (hb : before ≠ .block)
    (hsteam : Steaming s) (hr : s.demand.reported = false) : Notice.steamWithheld ∈ scaleNotices before s := by
  unfold scaleNotices
  rw [if_neg (h ▸ hb.symm), if_pos ⟨h, hsteam⟩]
  simp [hr]

/-! ### SCALE_SET (R138) -/

/-- A command is answered on what its owner left, notices posted or not. -/
theorem respond_answered_of_onlyPosted {p : Port} (echo : Byte) (st : Status) (payload : List Byte) {ks : List Notice}
    {s t : State} (h : OnlyPosted ks (heardBy p s) t) : Answered p echo st payload (heardBy p s) (respond p echo st payload t) := by
  obtain ⟨hbuffers, _⟩ := h
  obtain ⟨hheld, hnacked⟩ := heardBy_received p s
  obtain ⟨_, hheld', hnacked', hwrite⟩ := hbuffers p
  refine ⟨by simp [respond], by simp [respond, hheld', hheld], by simp [respond, hnacked', hnacked],
    by simp [respond, hwrite], fun q hq => ?_⟩
  simpa [BufferKept, respond, hq] using hbuffers q

theorem respond_posted_of_posted (p : Port) (echo : Byte) (st : Status) (payload : List Byte) {ks : List Notice}
    {s t : State} (h : Posted ks s t) : Posted ks s (respond p echo st payload t) := fun q => by
  rw [← h q]
  simp only [respond, mapPorts_blocks, PerPort.get_modify]
  split <;> rfl

/-- In ACTIVE a command wakes nothing (R167). -/
theorem heardBy_of_active (p : Port) {s : State} (h : s.modes.mode = .active) : heardBy p s = takeFrame p s := by
  have hmode : (takeFrame p s).modes.mode = .active := h
  unfold heardBy heard
  rw [hmode]

theorem takeFrame_posted (p : Port) (s : State) : Posted [] s (takeFrame p s) := fun q => by
  simp only [takeFrame, mapPorts_blocks, PerPort.get_modify]
  split <;> rfl

/-- The account as SCALE_SET leaves it, before the change of the scale state is told. -/
def accountSet (mg : Half) (s : State) : State := s.mapWater fun w => { w with account := mg.toNat, remainder := 0 }

/-- What SCALE_SET leaves once the water unit has taken it. -/
def scaleSet (mg : Half) (s : State) : State :=
  respond .service 0x63 .ok []
    (saveAccount (noteScale (scaleState (heardBy .service s)) (accountSet mg (heardBy .service s))))

theorem exec_scaleSet_service (mg : Half) (s : State) : exec (.scaleSet .service mg) s = .next (scaleSet mg s) := rfl

theorem exec_scaleSet_elsewhere {p : Port} (mg : Half) (s : State) (h : p ≠ .service) :
    exec (.scaleSet p mg) s = .next (respond p 0x63 .notPermitted [] (heardBy p s)) := by
  cases p
  · rfl
  · rfl
  · exact absurd rfl h

theorem heardBy_water (p : Port) (s : State) : (heardBy p s).water = s.water := by simp [heardBy]

theorem scaleState_heardBy (p : Port) (s : State) : scaleState (heardBy p s) = scaleState s := by
  simp [scaleState, heardBy_water]

theorem scaleState_accountSet (mg : Half) (p : Port) (s : State) :
    scaleState (accountSet mg (heardBy p s)) = scaleStateOf mg.toNat s.water.scaleLimit := by
  simp [scaleState, accountSet, heardBy_water]

section
variable (mg : Half) (s : State)

theorem scaleSet_water :
    (scaleSet mg s).water = { s.water with account := mg.toNat, remainder := 0, savedMg := mg.toNat } := by
  simp [scaleSet, saveAccount, accountSet, heardBy_water]

/-- The notices of SCALE_SET are those of the change of the scale state. -/
theorem scaleSet_onlyPosted :
    OnlyPosted (scaleNotices (scaleState s) (accountSet mg (heardBy .service s))) (heardBy .service s)
      (saveAccount (noteScale (scaleState (heardBy .service s)) (accountSet mg (heardBy .service s)))) := by
  have hnote := noteScale_onlyPosted (scaleState s) (accountSet mg (heardBy .service s))
  rw [scaleState_heardBy]
  have hbefore := onlyPosted_append (onlyPosted_of_ports (s := heardBy .service s) rfl) hnote
  simpa using onlyPosted_append hbefore (onlyPosted_of_ports (t := saveAccount _) (saveAccount_keeps _).2.1)

theorem scaleSet_answered : Answered .service 0x63 .ok [] (heardBy .service s) (scaleSet mg s) :=
  respond_answered_of_onlyPosted _ _ _ (scaleSet_onlyPosted mg s)

theorem scaleSet_posted :
    Posted (scaleNotices (scaleState s) (accountSet mg (heardBy .service s))) (heardBy .service s) (scaleSet mg s) :=
  respond_posted_of_posted _ _ _ _ (scaleSet_onlyPosted mg s).2

theorem scaleSet_sameExcept :
    SameExcept [.ports, .water, .store, .demand, .sched] (heardBy .service s) (scaleSet mg s) :=
  respond_sameExcept _ _ _ _ List.mem_cons_self fun b hb => by
    cases b <;> simp [Block.same, accountSet] at hb ⊢

theorem scaleSet_saveRequested : SaveRequested (heardBy .service s) (scaleSet mg s) :=
  respond_saveRequested _ _ _ _ (by simp [accountSet])

/-- BLOCK reached by SCALE_SET in a steaming frame withdraws steam (R94, R111, R135). -/
theorem scaleSet_withdraws (hsteam : Steaming s) (hmode : s.modes.mode = .active) (hbefore : scaleState s ≠ .block)
    (hlimit : s.water.scaleLimit ≤ mg.toNat) :
    SteamWithdrawn s (scaleSet mg s)
      ∧ Posted (if s.demand.reported then [.waterChanged] else [.waterChanged, .steamWithheld]) s (scaleSet mg s) := by
  have hheard := heardBy_of_active .service hmode
  have hblock : scaleState (accountSet mg (heardBy .service s)) = .block := by
    rw [scaleState_accountSet]; exact if_pos hlimit
  have hsteam' : Steaming (accountSet mg (heardBy .service s)) := by rw [hheard]; exact hsteam
  constructor
  · have hloads := noteScale_loads (scaleState (heardBy .service s)) (accountSet mg (heardBy .service s))
    rw [if_pos ⟨hblock, scaleState_heardBy .service s ▸ hbefore, hsteam'⟩] at hloads
    exact steamWithdrawn_of_same hloads (by rw [hheard]; rfl) (by rw [hheard]; rfl) (by simp [scaleSet]) (by simp [scaleSet])
  · have hposted := posted_append (takeFrame_posted .service s) (hheard ▸ scaleSet_posted mg s)
    have hnotices : scaleNotices (scaleState s) (accountSet mg (takeFrame .service s)) =
        .waterChanged :: if s.demand.reported then [] else [.steamWithheld] := by
      rw [hheard] at hblock hsteam'
      unfold scaleNotices
      rw [if_neg (hblock ▸ hbefore.symm), if_pos ⟨hblock, hsteam'⟩]
      rfl
    rw [hnotices] at hposted
    by_cases hr : s.demand.reported = true
    · simpa [hr] using hposted
    · simpa [hr] using hposted

end

/-- Settles O26: SCALE_SET refused and taken, BLOCK reached in a steaming frame, and the scale state by its two limits. -/
theorem scaleIsSet : Obligations.ScaleIsSet := by
  refine ⟨fun p mg s => ?command, fun mg s hrun hframe hadmitted hmode hbefore hlimit => ?withdrawn, fun _ _ => rfl⟩
  case withdrawn =>
    exact ⟨_, exec_scaleSet_service mg s, scaleSet_withdraws mg s ⟨hrun, hframe, hadmitted⟩ hmode hbefore hlimit⟩
  case command =>
    by_cases hp : p = .service
    · subst hp
      have hscale := scaleState_accountSet mg .service s
      have hposted := scaleSet_posted mg s
      refine ⟨_, exec_scaleSet_service mg s, ?_⟩
      rw [if_neg (not_not_intro rfl)]
      refine ⟨scaleSet_answered mg s, scaleSet_water mg s, scaleSet_saveRequested mg s, fun hchanged => ?_, fun hsame => ?_,
        scaleSet_sameExcept mg s⟩
      · exact holds_of_posted hposted (waterChanged_mem_scaleNotices (hscale ▸ hchanged))
      · rwa [scaleNotices, if_pos (hscale.trans hsame)] at hposted
    · refine ⟨_, exec_scaleSet_elsewhere mg s hp, ?_⟩
      rw [if_pos hp]
      exact respond_onlyAnswered ..

/-! ### A COOK fill that succeeds (R126, R134, R136) -/

/-- s with the fill's volume recorded, the operation in IDLE and the run marked for an after-run drain (R126, R170). -/
def fillRecorded (s : State) : State :=
  (toIdle (s.mapWater fun w => { w with lastFill := some (s.water.flow / 2) })).mapModes fun c =>
    { c with drainOnEnd := true }

/-- s with a fed volume on the account, where rinse-owed does not exempt it (R134). -/
def fed (volume : Nat) (s : State) : State :=
  if s.water.rinseOwed then s else s.mapWater fun w => w.accrue volume

/-- A save is asked for after the accrual: 500 mg are unsaved (R136). -/
def saveDue (s : State) : Bool := s.water.rinseOwed = false && decide (500 ≤ s.water.account - s.water.savedMg)

/-- The accrual of a COOK run: the account, the change of the scale state, and the save where it is due. -/
theorem accrueScale_cook {volume : Nat} {s : State} (hk : s.run.kind = .cook) :
    accrueScale volume s =
      if saveDue (fed volume s) then saveAccount (noteScale (scaleState s) (fed volume s))
      else noteScale (scaleState s) (fed volume s) := by
  unfold accrueScale
  by_cases hr : s.water.rinseOwed = true
  · have hfed : fed volume s = s := if_pos hr
    rw [if_neg fun h => by simp [hr] at h, hfed, if_neg (by simp [saveDue, hr]), noteScale_same rfl]
  · have hfed : fed volume s = s.mapWater fun w => w.accrue volume := if_neg hr
    have hrinse : (fed volume s).water.rinseOwed = false := by rw [hfed]; exact Bool.eq_false_of_not_eq_true hr
    have hwater : (noteScale (scaleState s) (fed volume s)).water = (fed volume s).water := by simp
    rw [if_pos ⟨hk, Bool.eq_false_of_not_eq_true hr⟩, ← hfed]
    simp only [hwater, saveDue, hrinse, decide_true, Bool.true_and, decide_eq_true_eq]

/-- s with its fill recorded and its volume on the account. -/
def counted (s : State) : State := fed (s.water.flow / 2) (fillRecorded s)

theorem concludeFill_cook {s : State} (hp : s.water.purpose = .cook) (hk : s.run.kind = .cook) :
    concludeFill s =
      if saveDue (counted s) then saveAccount (noteScale (scaleState s) (counted s))
      else noteScale (scaleState s) (counted s) :=
  (if_pos hp).trans (accrueScale_cook (s := fillRecorded s) hk)

section
variable (s : State)

theorem counted_blocks :
    (counted s).pins = s.pins ∧ (counted s).ports = s.ports ∧ (counted s).prog = s.prog ∧ (counted s).run = s.run
      ∧ (counted s).prompts = s.prompts ∧ (counted s).meas = s.meas ∧ (counted s).demand = s.demand
      ∧ (counted s).sched = s.sched ∧ (counted s).faults = s.faults
      ∧ (counted s).modes = { s.modes with drainOnEnd := true } ∧ (counted s).store = s.store
      ∧ (counted s).pending = s.pending := by
  unfold counted fed
  split <;> simp [fillRecorded]

theorem counted_steaming_iff : Steaming (counted s) ↔ Steaming s := by
  simp [Steaming, counted_blocks]

/-- The account and the remainder after the accrual (R134). -/
theorem counted_account :
    if s.water.rinseOwed = true then
      (counted s).water.account = s.water.account ∧ (counted s).water.remainder = s.water.remainder
    else
      let total := s.water.remainder + s.water.flow / 2 * s.water.hardness
      (counted s).water.account = min (s.water.account + total / 1000) 65535
        ∧ (counted s).water.remainder = total % 1000 := by
  have hrinse : (fillRecorded s).water.rinseOwed = s.water.rinseOwed := rfl
  unfold counted fed
  rw [hrinse]
  split
  · exact ⟨rfl, rfl⟩
  · exact ⟨rfl, rfl⟩

/-- Of the water unit the accrual touches the account and the remainder alone. -/
theorem counted_water :
    (counted s).water =
      { s.water with
        op := .idle
        purpose := .none
        attempt := none
        lastFill := some (s.water.flow / 2)
        account := (counted s).water.account
        remainder := (counted s).water.remainder } := by
  unfold counted fed
  split <;> rfl

theorem counted_savedMg : (counted s).water.savedMg = s.water.savedMg := by rw [counted_water s]

theorem saveDue_counted :
    saveDue (counted s) =
      (s.water.rinseOwed = false && decide (500 ≤ (counted s).water.account - s.water.savedMg)) := by
  unfold saveDue
  rw [counted_water s]

theorem scaleState_counted : scaleState (counted s) = scaleStateOf (counted s).water.account s.water.scaleLimit := by
  unfold scaleState
  rw [counted_water s]

end

/-! ### The fill concluded -/

section
variable {s : State} (hp : s.water.purpose = .cook) (hk : s.run.kind = .cook)
include hp hk

theorem concludeFill_water :
    (concludeFill s).water =
      { (counted s).water with
        savedMg := if saveDue (counted s) then (counted s).water.account else s.water.savedMg } := by
  rw [concludeFill_cook hp hk]
  by_cases h : saveDue (counted s) = true
  · rw [if_pos h, if_pos h]
    simp [saveAccount]
  · rw [if_neg h, if_neg h]
    simp [← counted_savedMg s]

theorem concludeFill_blocks :
    (concludeFill s).ports = (noteScale (scaleState s) (counted s)).ports
      ∧ (concludeFill s).demand = (noteScale (scaleState s) (counted s)).demand
      ∧ (concludeFill s).sched = (noteScale (scaleState s) (counted s)).sched
      ∧ (concludeFill s).modes = { s.modes with drainOnEnd := true } := by
  rw [concludeFill_cook hp hk]
  split <;> simp [counted_blocks]

theorem concludeFill_saves :
    if saveDue (counted s) then SaveRequested s (concludeFill s) else (concludeFill s).store = s.store := by
  rw [concludeFill_cook hp hk]
  by_cases h : saveDue (counted s) = true
  · rw [if_pos h, if_pos h]
    unfold SaveRequested saveAccount
    rw [liveRecord_requestSave]
    cases hf : s.store.flight <;> simp [requestSave, beginSave, hf, counted_blocks]
  · rw [if_neg h, if_neg h]
    simp [counted_blocks]

theorem concludeFill_onlyPosted : OnlyPosted (scaleNotices (scaleState s) (counted s)) s (concludeFill s) := by
  have hnote := noteScale_onlyPosted (scaleState s) (counted s)
  have hbefore := onlyPosted_append (onlyPosted_of_ports (s := s) (t := counted s) (by simp [counted_blocks])) hnote
  simpa using onlyPosted_append hbefore (onlyPosted_of_ports (concludeFill_blocks hp hk).1)

theorem concludeFill_loads :
    if scaleState (counted s) = .block ∧ scaleState s ≠ .block ∧ Steaming s then SteamWithdrawn s (concludeFill s)
    else (concludeFill s).sched = s.sched ∧ (concludeFill s).demand = s.demand := by
  have hloads := noteScale_loads (scaleState s) (counted s)
  obtain ⟨_, hdemand, hsched, _⟩ := concludeFill_blocks hp hk
  simp only [counted_steaming_iff] at hloads
  by_cases h : scaleState (counted s) = .block ∧ scaleState s ≠ .block ∧ Steaming s
  · rw [if_pos h] at hloads ⊢
    exact steamWithdrawn_of_same hloads (by simp [counted_blocks]) (by simp [counted_blocks]) hsched hdemand
  · rw [if_neg h] at hloads ⊢
    rw [hsched, hdemand]
    simpa [counted_blocks] using hloads

/-- With the scale state as it was, ports and loads are untouched. -/
theorem concludeFill_sameExcept (h : scaleState (counted s) = scaleState s) :
    SameExcept [.water, .modes, .store] s (concludeFill s) := by
  obtain ⟨hports, hdemand, hsched, _⟩ := concludeFill_blocks hp hk
  rw [noteScale_same h] at hports hdemand hsched
  intro b hb
  cases b <;> simp [Block.same, hports, hdemand, hsched, counted_blocks] at hb ⊢

end

/-! ### A drain that waits for the fill's end (R132) -/

theorem beginDrain_figures (p : Purpose) (s : State) :
    liveRecord (beginDrain p s) = liveRecord s ∧ (beginDrain p s).water.lastFill = s.water.lastFill
      ∧ (beginDrain p s).water.remainder = s.water.remainder
      ∧ (beginDrain p s).water.steamWanted = s.water.steamWanted := by
  unfold beginDrain
  rw [liveRecord_noteGate]
  unfold coolTest
  split <;> simp [liveRecord]

/-- A waiting drain that begins touches neither the stored settings, nor the fill's record, nor whether steam is wanted. -/
theorem beginWaiting_figures (s : State) :
    liveRecord (beginWaiting s) = liveRecord s ∧ (beginWaiting s).water.lastFill = s.water.lastFill
      ∧ (beginWaiting s).water.remainder = s.water.remainder
      ∧ (beginWaiting s).water.steamWanted = s.water.steamWanted := by
  unfold beginWaiting
  split
  · split
    · exact beginDrain_figures _ (s.mapWater fun w => { w with stepDrainWaiting := false })
    · split
      · exact beginDrain_figures _ s
      · exact ⟨rfl, rfl, rfl, rfl⟩
  · exact ⟨rfl, rfl, rfl, rfl⟩

theorem beginWaiting_of_none {s : State} (hpending : s.water.drainPending = false)
    (hwaiting : s.water.stepDrainWaiting = false) : beginWaiting s = s := by
  simp [beginWaiting, hpending, hwaiting]

/-- With the level WET no fill is needed (R124). -/
theorem afterIdle_of_wet {s : State} (h : boilerWet s = true) : afterIdle s = beginWaiting s := by
  have hwet : boilerWet (beginWaiting s) = true := by simpa [boilerWet] using h
  exact if_neg (by simp [cookFillNeeded, hwet])

theorem exec_verifyEnd_cook {s : State} (hop : s.water.op = .verifying) (hwet : boilerWet s = true)
    (hp : s.water.purpose = .cook) : exec .verifyEnd s = .next (beginWaiting (concludeFill s)) := by
  have hwet' : boilerWet (concludeFill s) = true := by simpa [boilerWet] using hwet
  have hverified : fillVerified s = beginWaiting (concludeFill s) := by
    unfold fillVerified
    simp [hp, afterIdle_of_wet hwet']
  rw [← hverified]
  exact congrArg Host.Outcome.next ((if_pos hop).trans (if_pos hwet))

/-- Settles O38: the fill concluded with its accrual, and a waiting drain begun after it. -/
theorem fillAccruesScale : Obligations.FillAccruesScale := by
  intro s hop hwet hp hk
  obtain ⟨hlive, hlast, hremainder, _⟩ := beginWaiting_figures (concludeFill s)
  have hwater := concludeFill_water hp hk
  have haccount : (beginWaiting (concludeFill s)).water.account = (counted s).water.account := by
    have h : (beginWaiting (concludeFill s)).water.account = (concludeFill s).water.account := congrArg AppRecord.account hlive
    rw [h, hwater]
  have hrest : (beginWaiting (concludeFill s)).water.remainder = (counted s).water.remainder := by rw [hremainder, hwater]
  refine ⟨_, exec_verifyEnd_cook hop hwet hp, ?_, ?_, ?_, ?_, ?_, ?_, ?_⟩
  · rw [hlast, hwater, counted_water]
  · have h : (beginWaiting (concludeFill s)).water.hardness = (concludeFill s).water.hardness := congrArg AppRecord.hardness hlive
    rw [h, hwater, counted_water]
  · have h : (beginWaiting (concludeFill s)).water.scaleLimit = (concludeFill s).water.scaleLimit :=
      congrArg AppRecord.scaleLimit hlive
    rw [h, hwater, counted_water]
  · simp [concludeFill_blocks hp hk]
  · simp only [haccount, hrest]
    exact counted_account s
  · simp only [haccount, hrest, ← saveDue_counted, ← scaleState_counted]
    refine ⟨?_, fun hpending hwaiting => ?_⟩
    · have hsaves := concludeFill_saves hp hk
      unfold SaveRequested at hsaves ⊢
      rw [hlive]
      simpa using hsaves
    · rw [beginWaiting_of_none (by rw [hwater, counted_water]; exact hpending) (by rw [hwater, counted_water]; exact hwaiting)]
      have hposted := (concludeFill_onlyPosted hp hk).2
      have hloads := concludeFill_loads hp hk
      refine ⟨?_, ?_, ?_⟩
      · rw [hwater, counted_water]
      · by_cases hsame : scaleState (counted s) = scaleState s
        · rw [if_pos hsame]
          exact concludeFill_sameExcept hp hk hsame
        · rw [if_neg hsame]
          exact holds_of_posted hposted (waterChanged_mem_scaleNotices hsame)
      · by_cases hblock : scaleState (counted s) = .block ∧ scaleState s ≠ .block ∧ Steaming s
        · obtain ⟨hnow, hbefore, hsteam⟩ := id hblock
          rw [if_pos hblock] at hloads ⊢
          refine ⟨hloads, fun hr => holds_of_posted hposted ?_⟩
          exact steamWithheld_mem_scaleNotices hnow hbefore ((counted_steaming_iff s).2 hsteam) (by simpa [counted_blocks] using hr)
        · rw [if_neg hblock] at hloads ⊢
          exact hloads
  · intro b hb
    cases b <;> simp [Block.same] at hb ⊢

end Sys2Proof.Machine.ScaleGate
end

section
/-! PROOF. A slot start (O49): one visit of the walk, what the walk has done once a list of entries is visited, the order of the
visits, and the budget that a slot start takes first. -/

namespace Sys2Proof.Machine.SlotWalk

open Sys2Proof Sys2Proof.Machine

/-! ### One visit (R106) -/

/-- The entry is enabled and owed a slot of the frame. -/
abbrev Owed (e : Entry) : Prop := e.enabled = true ∧ 0 < e.remaining

/-- The visit switches the entry on. -/
def Goes (wet : Bool) (w : Walk) (l : Load) : Prop :=
  w.ended = false ∧ Owed (w.entries.get l) ∧ (w.entries.get l).ratedW ≤ w.headroom ∧ (l = .boiler → wet = true)

section
variable {scan wet : Bool} {w : Walk} {l : Load}

theorem visit_of_goes (h : Goes wet w l) :
    w.visit scan wet l =
      { w with
        entries := w.entries.modify l Entry.grant
        headroom := w.headroom - (w.entries.get l).ratedW } := by
  obtain ⟨hended, ⟨henabled, howed⟩, hfits, hwet⟩ := h
  unfold Walk.visit
  simp only [hended, henabled]
  rw [if_neg (by simp), if_neg (by simp; omega), if_pos ⟨hfits, hwet⟩]

/-- An entry that does not go on ends a walk without scan where it is owed a slot, and does nothing else. -/
theorem visit_of_not_goes (h : ¬ Goes wet w l) :
    w.visit scan wet l = { w with ended := w.ended || (!scan && decide (Owed (w.entries.get l))) } := by
  unfold Walk.visit
  simp only
  by_cases hended : w.ended = true
  · rw [if_pos hended]
    simp only [hended, Bool.true_or]
    rw [← hended]
  · rw [if_neg hended]
    by_cases howed : Owed (w.entries.get l)
    · rw [if_neg (by simp [howed.1]; omega), if_neg fun hfits => h ⟨Bool.eq_false_of_not_eq_true hended, howed, hfits⟩]
      cases scan <;> simp [howed]
    · rw [if_pos (by simpa [Owed, Nat.pos_iff_ne_zero, or_iff_not_imp_left] using howed)]
      simp [howed]

/-- A visit leaves the other entries. -/
theorem visit_other {m : Load} (h : m ≠ l) : (w.visit scan wet l).entries.get m = w.entries.get m := by
  by_cases hg : Goes wet w l
  · rw [visit_of_goes hg]; simp [h]
  · rw [visit_of_not_goes hg]

end

/-! ### What a walk has done (R105, R106) -/

/-- The watts that the entries of a list take, at their ratings in E, those switched on in F. -/
def wattsTaken (E F : PerLoad Entry) (ls : List Load) : Nat :=
  (ls.map fun m => if (F.get m).on then (E.get m).ratedW else 0).sum

/-- The entry as the walk leaves it, chosen or not. -/
def decided (on : Bool) (e : Entry) : Entry := if on then { e with on := false }.grant else { e with on := false }

/-- An entry of the list is owed a slot in E and off in F. -/
abbrev OwedOff (E F : PerLoad Entry) (ls : List Load) : Prop := ∃ m ∈ ls, Owed (E.get m) ∧ (F.get m).on = false

/-- A walk over the entries E under a budget has visited these loads. -/
structure Walked (E : PerLoad Entry) (budget : Nat) (scan wet : Bool) (ls : List Load) (w : Walk) : Prop where
  entry : ∀ m, w.entries.get m = decided (w.entries.get m).on (E.get m)
  chosen : ∀ m, (w.entries.get m).on = true → Owed (E.get m) ∧ (m = .boiler → wet = true)
  unvisited : ∀ m, m ∉ ls → (w.entries.get m).on = false
  headroom : w.headroom + wattsTaken E w.entries ls = budget
  ended : w.ended = true ↔ scan = false ∧ OwedOff E w.entries ls

section
variable {E : PerLoad Entry} {budget : Nat} {scan wet : Bool}

theorem walked_start :
    Walked E budget scan wet []
      { entries := E.map fun e => { e with on := false }, headroom := budget, ended := false } where
  entry := by simp [decided]
  chosen := by simp
  unvisited := by simp
  headroom := by simp [wattsTaken]
  ended := by simp [OwedOff]

theorem wattsTaken_congr {F F' : PerLoad Entry} {ls : List Load} (h : ∀ m ∈ ls, (F'.get m).on = (F.get m).on) :
    wattsTaken E F' ls = wattsTaken E F ls := by
  unfold wattsTaken
  exact congrArg List.sum (List.map_congr_left fun m hm => by rw [h m hm])

theorem owedOff_congr {F F' : PerLoad Entry} {ls : List Load} (h : ∀ m ∈ ls, (F'.get m).on = (F.get m).on) :
    OwedOff E F' ls ↔ OwedOff E F ls :=
  exists_congr fun m => and_congr_right fun hm => by rw [h m hm]

theorem wattsTaken_append (F : PerLoad Entry) (ls ms : List Load) :
    wattsTaken E F (ls ++ ms) = wattsTaken E F ls + wattsTaken E F ms := by
  simp [wattsTaken]

variable {ls : List Load} {w : Walk} {l : Load}

/-- An entry not yet visited is as it was, but switched off. -/
theorem Walked.get_unvisited (h : Walked E budget scan wet ls w) (hl : l ∉ ls) :
    w.entries.get l = { E.get l with on := false } := by
  rw [h.entry l, h.unvisited l hl]; rfl

theorem Walked.goes_iff (h : Walked E budget scan wet ls w) (hl : l ∉ ls) :
    Goes wet w l ↔ w.ended = false ∧ Owed (E.get l) ∧ (E.get l).ratedW ≤ w.headroom ∧ (l = .boiler → wet = true) := by
  unfold Goes
  rw [h.get_unvisited hl]

theorem Walked.visit_on_iff (h : Walked E budget scan wet ls w) (hl : l ∉ ls) :
    ((w.visit scan wet l).entries.get l).on = true ↔ Goes wet w l := by
  by_cases hg : Goes wet w l
  · simp [visit_of_goes hg, hg, Entry.grant]
  · simp [visit_of_not_goes hg, hg, h.unvisited l hl]

theorem visit_on_visited (hl : l ∉ ls) (m : Load) (hm : m ∈ ls) :
    ((w.visit scan wet l).entries.get m).on = (w.entries.get m).on := by
  rw [visit_other (ne_of_mem_of_not_mem hm hl)]

theorem owedOff_visit (hl : l ∉ ls) :
    OwedOff E (w.visit scan wet l).entries (ls ++ [l]) ↔
      OwedOff E w.entries ls ∨ Owed (E.get l) ∧ ((w.visit scan wet l).entries.get l).on = false := by
  rw [← owedOff_congr (visit_on_visited (scan := scan) (wet := wet) hl)]
  simp [OwedOff, or_and_right, exists_or]

theorem Walked.visit_of_goes (h : Walked E budget scan wet ls w) (hl : l ∉ ls) (hg : Goes wet w l) :
    Walked E budget scan wet (ls ++ [l]) (w.visit scan wet l) := by
  obtain ⟨hended, howed, hfits, hwet⟩ := (h.goes_iff hl).1 hg
  have hon := (h.visit_on_iff hl (scan := scan)).2 hg
  have hget : (w.visit scan wet l).entries.get l = decided true (E.get l) := by
    rw [SlotWalk.visit_of_goes hg]; simp [h.get_unvisited hl, decided]
  refine ⟨fun m => ?_, fun m hm => ?_, fun m hm => ?_, ?_, ?_⟩
  · obtain rfl | hne := eq_or_ne m l
    · rw [hon, hget]
    · rw [visit_other hne]; exact h.entry m
  · obtain rfl | hne := eq_or_ne m l
    · exact ⟨howed, hwet⟩
    · rw [visit_other hne] at hm; exact h.chosen m hm
  · obtain ⟨hm, hne⟩ : m ∉ ls ∧ m ≠ l := by simpa using hm
    rw [visit_other hne]; exact h.unvisited m hm
  · have htaken : wattsTaken E (w.visit scan wet l).entries [l] = (E.get l).ratedW := by simp [wattsTaken, hon]
    have hbudget := h.headroom
    rw [wattsTaken_append, wattsTaken_congr (visit_on_visited hl), htaken, SlotWalk.visit_of_goes hg, h.get_unvisited hl]
    simp only
    omega
  · have hkeeps : (w.visit scan wet l).ended = w.ended := by rw [SlotWalk.visit_of_goes hg]
    rw [hkeeps, h.ended, owedOff_visit hl]
    simp [hon]

theorem Walked.visit_of_not_goes (h : Walked E budget scan wet ls w) (hl : l ∉ ls) (hg : ¬ Goes wet w l) :
    Walked E budget scan wet (ls ++ [l]) (w.visit scan wet l) := by
  have hoff : ((w.visit scan wet l).entries.get l).on = false := by
    simpa using mt (h.visit_on_iff hl (scan := scan)).1 hg
  have hstays := SlotWalk.visit_of_not_goes (scan := scan) hg
  have hentries : (w.visit scan wet l).entries = w.entries := by rw [hstays]
  refine ⟨by rw [hentries]; exact h.entry, by rw [hentries]; exact h.chosen, fun m hm => ?_, ?_, ?_⟩
  · rw [hentries]; exact h.unvisited m fun hm' => hm (List.mem_append_left _ hm')
  · have htaken : wattsTaken E (w.visit scan wet l).entries [l] = 0 := by simp [wattsTaken, hoff]
    rw [wattsTaken_append, wattsTaken_congr (visit_on_visited hl), htaken, hstays]
    exact h.headroom
  · rw [owedOff_visit hl, hoff, hstays, h.get_unvisited hl]
    simp only [Bool.or_eq_true, h.ended, Bool.and_eq_true, Bool.not_eq_true', decide_eq_true_eq, and_true, and_or_left]

theorem Walked.visit (h : Walked E budget scan wet ls w) (hl : l ∉ ls) :
    Walked E budget scan wet (ls ++ [l]) (w.visit scan wet l) := by
  by_cases hg : Goes wet w l
  · exact h.visit_of_goes hl hg
  · exact h.visit_of_not_goes hl hg

theorem Walked.foldl (ms : List Load) (h : Walked E budget scan wet ls w) (hnodup : (ls ++ ms).Nodup) :
    Walked E budget scan wet (ls ++ ms) (ms.foldl (Walk.visit scan wet) w) := by
  induction ms generalizing ls w with
  | nil => simpa using h
  | cons m ms ih =>
    have hm : m ∉ ls := fun hm => (List.nodup_append.1 hnodup).2.2 m hm m List.mem_cons_self rfl
    rw [List.append_cons] at hnodup ⊢
    exact ih (h.visit hm) hnodup

end

theorem foldl_visit_other {scan wet : Bool} {m : Load} {ls : List Load} (h : m ∉ ls) (w : Walk) :
    (ls.foldl (Walk.visit scan wet) w).entries.get m = w.entries.get m := by
  induction ls generalizing w with
  | nil => rfl
  | cons l ls ih =>
    obtain ⟨hne, hls⟩ := List.ne_and_not_mem_of_not_mem_cons h
    rw [List.foldl_cons, ih hls, visit_other hne]

/-! ### The order of the visits (R105) -/

theorem visitOrder_perm (E : PerLoad Entry) (n : Nat) : (visitOrder E n).Perm loadsInOrder := by
  have hrotated : (rotatedFrom (n % 5)).Perm loadsInOrder := by
    unfold rotatedFrom
    exact List.perm_append_comm.trans (by rw [List.take_append_drop])
  exact ((hrotated.filter _).append_left _).trans (List.filter_append_perm _ loadsInOrder)

theorem visitOrder_nodup (E : PerLoad Entry) (n : Nat) : (visitOrder E n).Nodup :=
  (visitOrder_perm E n).nodup_iff.2 (by decide)

theorem mem_visitOrder (E : PerLoad Entry) (n : Nat) (l : Load) : l ∈ visitOrder E n :=
  (visitOrder_perm E n).mem_iff.2 (mem_loadsInOrder l)

/-! ### The walk of a slot (R105, R106) -/

theorem eq_takeWhile_append {l : Load} {ls : List Load} (h : l ∈ ls) :
    ∃ after, ls = ls.takeWhile (fun m => m ≠ l) ++ l :: after := by
  induction ls with
  | nil => cases h
  | cons m ms ih =>
    by_cases hm : m = l
    · exact ⟨ms, by simp [hm]⟩
    · obtain ⟨after, hafter⟩ := ih ((List.mem_cons.1 h).resolve_left (Ne.symm hm))
      exact ⟨after, by rw [List.takeWhile_cons_of_pos (by simpa using hm), List.cons_append, ← hafter]⟩

section
variable (E : PerLoad Entry) (inForce : Nat) (scan wet : Bool) (n : Nat)

theorem walk_walked : Walked E (inForce - 115) scan wet (visitOrder E n) (walk E inForce scan wet n) :=
  walked_start.foldl (visitOrder E n) (visitOrder_nodup E n)

theorem walk_headroom :
    (walk E inForce scan wet n).headroom + wattsTaken E (walk E inForce scan wet n).entries loadsInOrder = inForce - 115 := by
  have hperm : wattsTaken E (walk E inForce scan wet n).entries loadsInOrder =
      wattsTaken E (walk E inForce scan wet n).entries (visitOrder E n) :=
    ((visitOrder_perm E n).symm.map _).sum_eq
  rw [hperm]
  exact (walk_walked E inForce scan wet n).headroom

/-- An entry goes on exactly when it is owed a slot and fits what those visited before it leave, BOILER with the level WET only, and
with scan off when no owed entry before it stayed off. -/
theorem walk_on_iff (l : Load) :
    ((walk E inForce scan wet n).entries.get l).on = true ↔
      Owed (E.get l)
        ∧ (E.get l).ratedW
            + wattsTaken E (walk E inForce scan wet n).entries ((visitOrder E n).takeWhile fun m => m ≠ l) ≤ inForce - 115
        ∧ (l = .boiler → wet = true)
        ∧ (scan = true ∨ ¬ OwedOff E (walk E inForce scan wet n).entries ((visitOrder E n).takeWhile fun m => m ≠ l)) := by
  obtain ⟨after, hsplit⟩ := eq_takeWhile_append (mem_visitOrder E n l)
  have hnodup := visitOrder_nodup E n
  generalize hpre : (visitOrder E n).takeWhile (fun m => m ≠ l) = pre at hsplit ⊢
  rw [hsplit] at hnodup
  obtain ⟨hpreNodup, hrest, hapart⟩ := List.nodup_append.1 hnodup
  have hl : l ∉ pre := fun h => hapart l h l List.mem_cons_self rfl
  have hwalked := (walked_start (E := E) (budget := inForce - 115) (scan := scan) (wet := wet)).foldl pre hpreNodup
  rw [List.nil_append] at hwalked
  have hwalk : (walk E inForce scan wet n) = (l :: after).foldl (Walk.visit scan wet) (pre.foldl (Walk.visit scan wet)
      { entries := E.map fun e => { e with on := false }, headroom := inForce - 115, ended := false }) := by
    rw [← List.foldl_append, ← hsplit]; rfl
  rw [hwalk]
  generalize pre.foldl (Walk.visit scan wet) _ = w at hwalked ⊢
  have hbefore : ∀ m ∈ pre, ((((l :: after).foldl (Walk.visit scan wet) w)).entries.get m).on = (w.entries.get m).on :=
    fun m hm => by rw [foldl_visit_other fun h => hapart m hm m h rfl]
  rw [wattsTaken_congr hbefore, owedOff_congr hbefore, List.foldl_cons, foldl_visit_other (List.nodup_cons.1 hrest).1,
    hwalked.visit_on_iff hl, hwalked.goes_iff hl, ← hwalked.headroom, Nat.add_le_add_iff_right, ← Bool.not_eq_true,
    hwalked.ended]
  have hscan : ¬ (scan = false ∧ OwedOff E w.entries pre) ↔ scan = true ∨ ¬ OwedOff E w.entries pre := by
    rw [not_and_or, Bool.not_eq_false]
  rw [hscan]
  exact ⟨fun ⟨hended, howed, hfits, hwet⟩ => ⟨howed, hfits, hwet, hended⟩,
    fun ⟨howed, hfits, hwet, hended⟩ => ⟨hended, howed, hfits, hwet⟩⟩

end

/-! ### The budget a slot start takes first (R115) -/

theorem shedList_eq (ls : List Load) (excess : Nat) (u : Sched) :
    ∃ entries curW, Sched.shedList ls excess u = { u with entries := entries, curW := curW } := by
  induction ls generalizing excess u with
  | nil => exact ⟨u.entries, u.curW, rfl⟩
  | cons l ls ih =>
    have hshed : ∃ entries curW, u.shedOne l = { u with entries := entries, curW := curW } := by
      unfold Sched.shedOne Sched.switchOff
      simp only
      split <;> split <;> exact ⟨_, _, rfl⟩
    obtain ⟨es, c, hshed⟩ := hshed
    unfold Sched.shedList
    split
    · exact ⟨u.entries, u.curW, rfl⟩
    · split
      · rw [hshed]; exact ih _ _
      · exact ih _ _

theorem takeBudget_of_not_owed {s : State} (h : s.meas.owed.budget = false) : takeBudget s = s :=
  if_neg (by simp [h])

theorem slotFinds_eq (s : State) : slotFinds s = measuredBudget s := by
  unfold slotFinds measuredBudget
  rfl

/-- The round's budget owed no longer. -/
def budgetTaken (s : State) : State := s.mapMeas fun m => { m with owed := { m.owed with budget := false } }

/-- Taking the budget moves the round's debt and the schedule's figures, and no position of the frame. -/
theorem budgetRound_keeps (s : State) :
    SameExcept [.sched] s (budgetRound s)
      ∧ (budgetRound s).sched.frameRunning = s.sched.frameRunning ∧ (budgetRound s).sched.slot = s.sched.slot
      ∧ (budgetRound s).sched.slotStarted = s.sched.slotStarted ∧ (budgetRound s).sched.scan = s.sched.scan
      ∧ (budgetRound s).sched.measured = true := by
  obtain ⟨entries, curW, hshed⟩ := shedList_eq loadsInOrder.reverse (s.meas.supplyW - s.meas.latest.budget.limit)
    (s.sched.recompute s.meas.supplyW s.meas.latest.budget)
  have hsched : (budgetRound s).sched =
      { s.sched.recompute s.meas.supplyW s.meas.latest.budget with entries := entries, curW := curW } := hshed
  refine ⟨fun b hb => ?_, ?_⟩
  · cases b <;> simp [Block.same, budgetRound] at hb ⊢
  · rw [hsched]
    exact ⟨rfl, rfl, rfl, rfl, rfl⟩

/-- A slot start finds everything but the round's debt and the schedule's figures as it stood, and the frame where it was. -/
theorem slotFinds_keeps (s : State) :
    SameExcept [.meas, .sched] s (slotFinds s)
      ∧ (slotFinds s).sched.frameRunning = s.sched.frameRunning ∧ (slotFinds s).sched.slot = s.sched.slot
      ∧ (slotFinds s).sched.slotStarted = s.sched.slotStarted ∧ (slotFinds s).sched.scan = s.sched.scan := by
  rw [slotFinds_eq]
  unfold measuredBudget
  split
  · exact ⟨fun b _ => by cases b <;> rfl, rfl, rfl, rfl, rfl⟩
  · unfold takeBudget
    split
    · obtain ⟨hsame, hframe, hslot, hstarted, hscan, _⟩ := budgetRound_keeps (budgetTaken s)
      refine ⟨fun b hb => ?_, hframe, hslot, hstarted, hscan⟩
      have hkept := hsame b (fun h => hb (List.mem_cons_of_mem _ h))
      cases b
      case meas => exact absurd List.mem_cons_self hb
      all_goals exact hkept
    · exact ⟨fun b _ => by cases b <;> rfl, rfl, rfl, rfl, rfl⟩

/-- After it no budget is owed that a further slot start would take first. -/
theorem slotFinds_settled (s : State) :
    (slotFinds s).sched.measured = true ∨ (slotFinds s).meas.owed.budget = false := by
  rw [slotFinds_eq]
  unfold measuredBudget
  split
  · next h => exact .inl h
  · unfold takeBudget
    split
    · exact .inl (budgetRound_keeps (budgetTaken s)).2.2.2.2.2
    · next h => exact .inr (Bool.eq_false_of_not_eq_true h)

/-- The slot that a start within a frame decides (R102). -/
def nextSlot (s : State) : Nat := if s.sched.slotStarted then s.sched.slot + 1 else s.sched.slot

theorem frameLive_iff (s : State) : frameLive s = true ↔ s.sched.frameRunning = true ∧ s.run.state = .running := by
  simp [frameLive]

theorem exec_slotStart {s : State} (h : frameLive s = true) : exec .slotStart s = .next (slotDue (slotFinds s)) := by
  rw [slotFinds_eq]
  exact congrArg Host.Outcome.next (if_pos h)

theorem slotDue_within {s : State} (h : s.sched.slotStarted = true → s.sched.slot < 39) :
    slotDue s = startSlotNumber (nextSlot s) s := by
  unfold slotDue nextSlot
  by_cases hs : s.sched.slotStarted = true
  · rw [if_neg (by simp [hs]), if_pos (h hs), if_pos hs]
  · rw [if_pos (Bool.eq_false_of_not_eq_true hs), if_neg hs]

section
variable {s : State} (hframe : s.sched.frameRunning = true) (hrun : s.run.state = .running)
  (hslot : s.sched.slotStarted = true → s.sched.slot < 39)
include hframe hrun hslot

/-- A slot start within a frame decides the next slot on what it finds. -/
theorem exec_slotStart_within : exec .slotStart s = .next (startSlotNumber (nextSlot s) (slotFinds s)) := by
  obtain ⟨_, _, hsame, hstarted, _⟩ := slotFinds_keeps s
  have hnext : nextSlot (slotFinds s) = nextSlot s := by rw [nextSlot, hsame, hstarted]; rfl
  rw [exec_slotStart ((frameLive_iff s).2 ⟨hframe, hrun⟩), slotDue_within (by rw [hsame, hstarted]; exact hslot), hnext]

end

/-! ### A slot decided -/

section
variable (n : Nat) (b : State)

/-- The walk that a slot start of b takes. -/
def slotWalk : Walk := walk b.sched.entries b.sched.computed b.sched.scan (boilerWet b) n

theorem startSlotNumber_sched :
    (startSlotNumber n b).sched =
      { b.sched with
        entries := (slotWalk n b).entries
        slot := n
        slotStarted := true
        inForce := b.sched.computed
        headroom := (slotWalk n b).headroom
        prevW := b.sched.curW
        curW := wattsOn (slotWalk n b).entries } := rfl

theorem slotWalk_walked :
    Walked b.sched.entries (b.sched.computed - 115) b.sched.scan (boilerWet b) (visitOrder b.sched.entries n) (slotWalk n b) :=
  walk_walked ..

theorem slotWalk_ratedW (l : Load) : ((slotWalk n b).entries.get l).ratedW = (b.sched.entries.get l).ratedW := by
  rw [(slotWalk_walked n b).entry l]
  cases ((slotWalk n b).entries.get l).on <;> rfl

/-- Current slot watts are what the entries on take at their ratings (R107). -/
theorem wattsOn_eq_sum (E : PerLoad Entry) :
    wattsOn E = (loadsInOrder.map fun l => if (E.get l).on then (E.get l).ratedW else 0).sum := rfl

theorem wattsOn_slotWalk :
    wattsOn (slotWalk n b).entries = wattsTaken b.sched.entries (slotWalk n b).entries loadsInOrder := by
  unfold wattsTaken
  rw [wattsOn_eq_sum]
  simp only [slotWalk_ratedW]

theorem slotWalk_headroom : (slotWalk n b).headroom + wattsOn (slotWalk n b).entries = b.sched.computed - 115 := by
  rw [wattsOn_slotWalk]
  exact walk_headroom ..

theorem startSlotNumber_sameExcept : SameExcept [.sched, .modes] b (startSlotNumber n b) := by
  intro l hl
  cases l <;> simp [Block.same, startSlotNumber] at hl ⊢

end

/-- Settles O49: the slot's figures and each entry as the walk leaves it, and when an entry goes on. -/
theorem slotsKeepTheBudget : Obligations.SlotsKeepTheBudget := by
  refine ⟨fun s hframe hrun hslot => ?figures, fun s hframe hrun hslot => ?order⟩
  case figures =>
    obtain ⟨hsame, _⟩ := slotFinds_keeps s
    have hpins : (slotFinds s).pins = s.pins := hsame .pins (by decide)
    have hmodes : (slotFinds s).modes = s.modes := hsame .modes (by decide)
    have hdemand : (slotFinds s).demand = s.demand := hsame .demand (by decide)
    have hwalked := slotWalk_walked (nextSlot s) (slotFinds s)
    have hheadroom := slotWalk_headroom (nextSlot s) (slotFinds s)
    refine ⟨_, exec_slotStart_within hframe hrun hslot, rfl, rfl, rfl, ?modes, rfl, wattsOn_eq_sum _, ?budget,
      fun l hon => ?on, fun l hoff => ?off, rfl, startSlotNumber_sameExcept _ _⟩
    case modes => rw [← hmodes, ← hdemand]; rfl
    case budget => exact Nat.le.intro ((Nat.add_comm _ _).trans hheadroom)
    case on =>
      obtain ⟨⟨henabled, howed⟩, hwet⟩ := hwalked.chosen l hon
      have hentry := hwalked.entry l
      rw [show ((slotWalk (nextSlot s) (slotFinds s)).entries.get l).on = true from hon] at hentry
      exact ⟨henabled, howed, fun hl => by simpa [boilerWet, hpins] using hwet hl, hentry⟩
    case off =>
      have hentry := hwalked.entry l
      rw [show ((slotWalk (nextSlot s) (slotFinds s)).entries.get l).on = false from hoff] at hentry
      exact hentry
  case order =>
    obtain ⟨hsame, _, _, _, hscan⟩ := slotFinds_keeps s
    have hpins : (slotFinds s).pins = s.pins := hsame .pins (by decide)
    have hheadroom := slotWalk_headroom (nextSlot s) (slotFinds s)
    refine ⟨_, exec_slotStart_within hframe hrun hslot, fun l => ?_, Nat.eq_sub_of_add_eq hheadroom⟩
    have hon := walk_on_iff (slotFinds s).sched.entries (slotFinds s).sched.computed (slotFinds s).sched.scan
      (boilerWet (slotFinds s)) (nextSlot s) l
    have hwet : boilerWet (slotFinds s) = true ↔ s.pins.boilerLevel = .wet := by simp [boilerWet, hpins]
    rw [hwet] at hon
    simp only [OwedOff, not_exists, not_and, Bool.not_eq_false] at hon
    rw [← hscan]
    exact hon

end Sys2Proof.Machine.SlotWalk
end

section
/-! PROOF. A new frame (O50, O51): what the water unit's frame test leaves to the demand unit, the demand unit's figures for each
heating in force, and the frame that the end of slot 39 begins. -/

namespace Sys2Proof.Machine.FrameDemand

open Sys2Proof Sys2Proof.Machine
open FillAttempts Rounds ScaleGate

/-! ### Operations that leave steam alone -/

/-- No STEAM_WITHHELD was posted, and the demand unit and the scheduler are as they were. -/
def SteamUntouched (s t : State) : Prop := SteamUnreported s t ∧ t.demand = s.demand ∧ t.sched = s.sched

theorem untouched_refl (s : State) : SteamUntouched s s := ⟨fun _ => Iff.rfl, rfl, rfl⟩

theorem SteamUntouched.trans {s t u : State} (h : SteamUntouched s t) (h' : SteamUntouched t u) : SteamUntouched s u := by
  obtain ⟨hreport, hdemand, hsched⟩ := h
  obtain ⟨hreport', hdemand', hsched'⟩ := h'
  exact ⟨fun q => (hreport' q).trans (hreport q), hdemand'.trans hdemand, hsched'.trans hsched⟩

theorem untouched_mapWater (f : Water → Water) (s : State) : SteamUntouched s (s.mapWater f) := untouched_refl s

theorem untouched_postAll {k : Notice} (hk : k ≠ .steamWithheld) (s : State) : SteamUntouched s (postAll k s) :=
  ⟨unreported_of_posted (posted_postAll k rfl) (by simpa using hk.symm), rfl, rfl⟩

theorem untouched_closePrompt (p : Prompt) (o : PromptOutcome) (b : AnsweredBy) (s : State) :
    SteamUntouched s (closePrompt p o b s) := by
  unfold closePrompt
  exact untouched_postAll (by decide) (s.mapPrompts _)

theorem untouched_withdrawList (ps : List Prompt) (s : State) : SteamUntouched s (withdrawList ps s) := by
  induction ps generalizing s with
  | nil => exact untouched_refl s
  | cons p ps ih => exact (untouched_closePrompt p _ _ s).trans (ih _)

theorem untouched_withdrawWhere (fits : Prompt → Bool) (s : State) : SteamUntouched s (withdrawWhere fits s) :=
  untouched_withdrawList _ s

theorem untouched_raisePrompt (k : PromptKind) (src : PromptSource) (timeout : Nat) (a : TimeoutAction) (s : State) :
    SteamUntouched s (raisePrompt k src timeout a s) :=
  (untouched_withdrawWhere _ s).trans (untouched_postAll (by decide) _)

theorem untouched_enterWaitTank (s : State) : SteamUntouched s (enterWaitTank s) := by
  unfold enterWaitTank
  simp only
  split
  · exact untouched_mapWater _ s
  · exact (untouched_mapWater _ s).trans (untouched_raisePrompt ..)

theorem untouched_beginAttempt (s : State) : SteamUntouched s (beginAttempt s) := by
  unfold beginAttempt
  split
  · exact untouched_enterWaitTank s
  · split
    · exact untouched_mapWater _ s
    · exact untouched_mapWater _ s

theorem untouched_fillNeedTest (s : State) : SteamUntouched s (fillNeedTest s) := by
  unfold fillNeedTest
  split
  · exact (untouched_mapWater _ s).trans (untouched_beginAttempt _)
  · exact untouched_refl s

/-- A change of the gate withdraws steam in a frame ADMITTED to it, and in no other (R94). -/
theorem untouched_noteGate (before : Bool) {s : State} (h : s.demand.steam ≠ .admitted) :
    SteamUntouched s (noteGate before s) := by
  have hpost := untouched_postAll (k := .waterChanged) (by decide) s
  have hgate : steamGateClosing (postAll .waterChanged s) = postAll .waterChanged s :=
    steamGateClosing_elsewhere fun hsteam => h hsteam.2.2
  unfold noteGate
  split
  · exact untouched_refl s
  · rw [hgate]
    split <;> exact hpost

theorem untouched_beginDrain (p : Purpose) {s : State} (h : s.demand.steam ≠ .admitted) :
    SteamUntouched s (beginDrain p s) := by
  have hcool : SteamUntouched s
      (coolTest (published s .boil) (s.mapWater fun w => { w with op := .drainWaitCool, purpose := p })) := by
    unfold coolTest
    split
    · exact untouched_refl s
    · exact untouched_refl s
  exact hcool.trans (untouched_noteGate _ (by rw [hcool.2.1]; exact h))

theorem untouched_beginWaiting {s : State} (h : s.demand.steam ≠ .admitted) : SteamUntouched s (beginWaiting s) := by
  unfold beginWaiting
  split
  · split
    · exact (untouched_mapWater _ s).trans (untouched_beginDrain _ h)
    · split
      · exact untouched_beginDrain _ h
      · exact untouched_refl s
  · exact untouched_refl s

/-! ### The water unit's frame test (R124, R129) -/

/-- s with steam wanted as the heating in force has it. -/
def steamAsked (s : State) : State := s.mapWater fun w => { w with steamWanted := wantsSteam s }

/-- A COOK fill waits for the tank, and its need has gone. -/
abbrev NeedGone (s : State) : Prop :=
  s.water.steamWanted = false ∧ s.water.op.waitingTank = true ∧ s.water.purpose = .cook

theorem frameWaterTest_of_gone {s : State} (hk : s.run.kind = .cook) (h : NeedGone (steamAsked s)) :
    frameWaterTest s = afterIdle (toIdle (withdrawRefill (steamAsked s))) := (if_pos hk).trans (if_pos h)

theorem frameWaterTest_of_standing {s : State} (hk : s.run.kind = .cook) (h : ¬ NeedGone (steamAsked s)) :
    frameWaterTest s = fillNeedTest (steamAsked s) := (if_pos hk).trans (if_neg h)

/-- The frame test leaves steam alone: a fill whose need has gone ends in a frame that is not ADMITTED. -/
theorem untouched_frameWaterTest {s : State} (h : s.demand.steam = .admitted → wantsSteam s = true) :
    SteamUntouched s (frameWaterTest s) := by
  by_cases hk : s.run.kind = .cook
  · by_cases hgone : NeedGone (steamAsked s)
    · have hsteam : s.demand.steam ≠ .admitted := fun hadmitted => by
        have hwanted : wantsSteam s = false := hgone.1
        rw [h hadmitted] at hwanted
        cases hwanted
      have hrefill : SteamUntouched s (toIdle (withdrawRefill (steamAsked s))) :=
        (untouched_mapWater _ s).trans ((untouched_withdrawWhere _ _).trans (untouched_mapWater _ _))
      rw [frameWaterTest_of_gone hk hgone]
      exact (hrefill.trans (untouched_beginWaiting (by rw [hrefill.2.1]; exact hsteam))).trans (untouched_fillNeedTest _)
    · rw [frameWaterTest_of_standing hk hgone]
      exact (untouched_mapWater _ s).trans (untouched_fillNeedTest _)
  · rw [show frameWaterTest s = s from if_neg hk]
    exact untouched_refl s

/-- Where steam is not wanted a return to IDLE begins no fill. -/
theorem afterIdle_of_unwanted {s : State} (h : s.water.steamWanted = false) : afterIdle s = beginWaiting s := by
  have hwanted : (beginWaiting s).water.steamWanted = false := (beginWaiting_figures s).2.2.2.trans h
  exact if_neg (by simp [cookFillNeeded, hwanted])

theorem promptOpen_withdrawRefill (s : State) : promptOpen (withdrawRefill s) .refillTank = false := by
  unfold promptOpen withdrawRefill
  rw [List.any_eq_false]
  exact fun q hq => by simpa using PromptOrder.not_fits_of_mem_withdrawWhere hq

/-- The test of the fill need reads the pins, the run, the water unit and the hold alone. -/
theorem cookFillTested_of_same {s s' t : State} (h : CookFillTested s t) (hpins : s'.pins = s.pins) (hrun : s'.run = s.run)
    (hwater : s'.water = s.water) (hfaults : s'.faults = s.faults) : CookFillTested s' t := by
  cases s
  cases s'
  simp only at hpins hrun hwater hfaults
  subst hpins hrun hwater hfaults
  exact h

/-- The frame test made on a state that differs from s in the frame's figures alone is the frame test of s. -/
theorem frameWaterTest_waterAtFrame {level : Nat} {s f : State} (hk : f.run.kind = .cook)
    (hwants : wantsSteam f = decide (0 < level ∧ ¬ SteamDenied s)) (hpins : f.pins = s.pins) (hrun : f.run = s.run)
    (hwater : f.water = s.water) (hfaults : f.faults = s.faults) : WaterAtFrame level s (frameWaterTest f) := by
  have hasked : (steamAsked f).water = { s.water with steamWanted := decide (0 < level ∧ ¬ SteamDenied s) } := by
    rw [← hwants, ← hwater]; rfl
  have hgone_iff : decide (0 < level ∧ ¬ SteamDenied s) = false ∧ s.water.op.waitingTank = true ∧ s.water.purpose = .cook ↔
      NeedGone (steamAsked f) := by rw [NeedGone, hasked]
  unfold WaterAtFrame
  simp only [← hasked]
  by_cases hgone : NeedGone (steamAsked f)
  · have hidle : (toIdle (withdrawRefill (steamAsked f))).water.steamWanted = false := by simpa [toIdle] using hgone.1
    rw [if_pos (hgone_iff.2 hgone), frameWaterTest_of_gone hk hgone, afterIdle_of_unwanted hidle]
    refine ⟨?_, fun hpending hwaiting => ?_⟩
    · rw [promptOpen, (beginWaiting_keeps _).2.2.2.1]
      exact promptOpen_withdrawRefill _
    · rw [beginWaiting_of_none (by simpa [toIdle, hasked] using hpending) (by simpa [toIdle, hasked] using hwaiting)]
      simp [toIdle, opIdle]
  · rw [if_neg (mt hgone_iff.1 hgone), frameWaterTest_of_standing hk hgone]
    exact cookFillTested_of_same (fillNeedTest_tested _) hpins.symm hrun.symm rfl hfaults.symm

/-! ### The state of a frame start before the water test (R86, R93, R103, R170) -/

/-- s with the demand unit's figures and the scheduler's frame, before any report. -/
def formed (s : State) : State :=
  (s.mapDemand fun _ => demandAtFrame s).mapSched fun u => u.formFrame (demandAtFrame s).requests

/-- s with its frame formed, a withholding reported, and a COOK run's frame ADMITTED to steam marked. -/
def framed (s : State) : State :=
  let s2 := if (demandAtFrame s).steam = .withheld then reportWithheld (formed s) else formed s
  if (demandAtFrame s).steam = .admitted ∧ s.run.kind = .cook then s2.mapModes fun c => { c with drainOnEnd := true } else s2

theorem frameStart_eq (s : State) : frameStart s = frameWaterTest (framed s) := rfl

section
variable (s : State)

theorem framed_blocks :
    (framed s).pins = s.pins ∧ (framed s).prog = s.prog ∧ (framed s).run = s.run ∧ (framed s).meas = s.meas
      ∧ (framed s).water = s.water ∧ (framed s).faults = s.faults
      ∧ (framed s).sched = s.sched.formFrame (demandAtFrame s).requests := by
  unfold framed
  simp only
  split <;> split <;> simp [formed]

theorem framed_demand :
    (framed s).demand = if (demandAtFrame s).steam = .withheld then { demandAtFrame s with reported := true }
      else demandAtFrame s := by
  unfold framed
  simp only
  split <;> split <;> simp [formed, reportWithheld_demand]

theorem framed_drainOnEnd :
    (framed s).modes.drainOnEnd =
      (s.modes.drainOnEnd || decide (s.run.kind = .cook ∧ (demandAtFrame s).steam = .admitted)) := by
  have hkept : (if (demandAtFrame s).steam = .withheld then reportWithheld (formed s) else formed s).modes = s.modes := by
    split <;> simp [formed]
  unfold framed
  by_cases hmark : (demandAtFrame s).steam = .admitted ∧ s.run.kind = .cook
  · simp [hmark]
  · simp only [if_neg hmark, hkept]
    rw [decide_eq_false fun h => hmark h.symm, Bool.or_false]

/-- What a frame start reports: STEAM_WITHHELD where steam is WITHHELD and the mark was clear (R93). -/
theorem framed_posted :
    Posted (if (demandAtFrame s).steam = .withheld then (if (demandAtFrame s).reported then [] else [.steamWithheld]) else [])
      s (framed s) := by
  have hreport : Posted
      (if (demandAtFrame s).steam = .withheld then (if (demandAtFrame s).reported then [] else [.steamWithheld]) else [])
      s (if (demandAtFrame s).steam = .withheld then reportWithheld (formed s) else formed s) := by
    split
    · exact (reportWithheld_onlyPosted (formed s)).2
    · exact posted_of_ports rfl
  unfold framed
  by_cases hmark : (demandAtFrame s).steam = .admitted ∧ s.run.kind = .cook
  · simp only [if_pos hmark]
    exact hreport
  · simp only [if_neg hmark]
    exact hreport

end

/-! ### The demand unit's figures, heating by heating (R88 to R96) -/

theorem clampNat_eq (x : Int) (n : Nat) : clampNat x n = (max 0 (min (n : Int) x)).toNat := by
  unfold clampNat; omega

theorem cavityDemandOf_eq (h : Heat) (cav : Int) :
    cavityDemandOf h cav =
      (max 0 (min 100 ((h.setpoint * (shareRow h.mode).hold).tdiv 1000
        + ((h.setpoint - cav) * 100).tdiv (shareRow h.mode).band))).toNat :=
  clampNat_eq _ 100

theorem elementRequest_eq (demand share : Nat) : elementRequest demand share = (demand * share * 40 + 5000) / 10000 := by
  unfold elementRequest; omega

theorem steamSlots_eq (level : Nat) : steamSlots level = (level * 40 + 50) / 100 := by
  unfold steamSlots; omega

section
variable (s : State)

theorem demandAtFrame_reported : (demandAtFrame s).reported = s.demand.reported := by
  unfold demandAtFrame
  split <;> rfl

theorem heatingInForce_framed : heatingInForce (framed s) = heatingInForce s := by
  simp [heatingInForce, currentBuiltin, framed_blocks]

theorem steamDenied_framed : steamDenied (framed s) = steamDenied s := by
  obtain ⟨_, _, hrun, _, hwater, _⟩ := framed_blocks s
  unfold steamDenied scaleState gateWithheld gateDeclined gateDraining cookActive
  rw [hrun, hwater]

theorem steamConditionOf_eq (level : Nat) :
    steamConditionOf s level = if level = 0 then .notSteaming else if SteamDenied s then .withheld else .admitted := by
  unfold steamConditionOf
  simp only [steamDenied_iff]

theorem steamConditionOf_admitted_iff (level : Nat) :
    steamConditionOf s level = .admitted ↔ 0 < level ∧ ¬ SteamDenied s := by
  rw [steamConditionOf_eq, Nat.pos_iff_ne_zero]
  split_ifs <;> simp_all

variable {s} {h : Heat} {fast : Bool}

/-- The water unit wants steam exactly where the heating steams and nothing denies it (R124). -/
theorem wantsSteam_framed_row (hh : heatingInForce s = .row h fast) :
    wantsSteam (framed s) = decide (0 < h.steam ∧ ¬ SteamDenied s) := by
  unfold wantsSteam
  rw [heatingInForce_framed, hh]
  simp only [steamDenied_framed, ← steamDenied_iff]
  by_cases h1 : steamDenied s = true <;> simp [h1]

theorem wantsSteam_framed_off {n : Nat} (hh : heatingInForce s = .off n) : wantsSteam (framed s) = false := by
  unfold wantsSteam
  rw [heatingInForce_framed, hh]

theorem demandAtFrame_row (hh : heatingInForce s = .row h fast) :
    demandAtFrame s =
      { requests := {
          ring := elementRequest (((published s .cav).map (cavityDemandOf h)).getD 0) (shares h.mode fast).ring
          top := elementRequest (((published s .cav).map (cavityDemandOf h)).getD 0) (shares h.mode fast).top
          bottom := elementRequest (((published s .cav).map (cavityDemandOf h)).getD 0) (shares h.mode fast).bottom
          grill := elementRequest (((published s .cav).map (cavityDemandOf h)).getD 0) (shares h.mode fast).grill
          boiler := if steamConditionOf s h.steam = .admitted then boilerSteamRequest s h.steam else 0 }
        cavityDemand := (published s .cav).map (cavityDemandOf h)
        fanDuty := h.fan
        steam := steamConditionOf s h.steam
        reported := s.demand.reported
        fastApplied := fast } := by
  unfold demandAtFrame; rw [hh]

theorem demandAtFrame_off {n : Nat} (hh : heatingInForce s = .off n) :
    demandAtFrame s =
      { requests := { ring := 0, top := 0, bottom := 0, grill := 0, boiler := 0 }
        cavityDemand := none
        fanDuty := n
        steam := .notSteaming
        reported := s.demand.reported
        fastApplied := false } := by
  unfold demandAtFrame; rw [hh]

theorem demandAtFrame_soak (hh : heatingInForce s = .soak) :
    demandAtFrame s =
      { requests := { ring := 0, top := 0, bottom := 0, grill := 0, boiler := soakRequest s }
        cavityDemand := none
        fanDuty := 0
        steam := .notSteaming
        reported := s.demand.reported
        fastApplied := false } := by
  unfold demandAtFrame; rw [hh]

/-- A frame ADMITTED to steam is one whose heating wants it (R91, R124). -/
theorem wantsSteam_of_admitted (hadmitted : (framed s).demand.steam = .admitted) : wantsSteam (framed s) = true := by
  have hsteam : (demandAtFrame s).steam = .admitted := by
    rw [framed_demand] at hadmitted
    split at hadmitted <;> exact hadmitted
  cases hh : heatingInForce s with
  | row h fast =>
    rw [demandAtFrame_row hh] at hsteam
    rw [wantsSteam_framed_row hh, decide_eq_true_iff]
    exact (steamConditionOf_admitted_iff s h.steam).1 hsteam
  | soak => rw [demandAtFrame_soak hh] at hsteam; cases hsteam
  | off n => rw [demandAtFrame_off hh] at hsteam; cases hsteam

end

/-! ### A frame start (R86) -/

section
variable (s : State)

theorem untouched_frameStart : SteamUntouched (framed s) (frameStart s) :=
  untouched_frameWaterTest wantsSteam_of_admitted

theorem frameStart_demand :
    (frameStart s).demand =
      if (demandAtFrame s).steam = .withheld then { demandAtFrame s with reported := true } else demandAtFrame s :=
  (untouched_frameStart s).2.1.trans (framed_demand s)

/-- The figures of a frame, the report apart. -/
theorem frameStart_figures :
    (frameStart s).demand.requests = (demandAtFrame s).requests
      ∧ (frameStart s).demand.cavityDemand = (demandAtFrame s).cavityDemand
      ∧ (frameStart s).demand.fanDuty = (demandAtFrame s).fanDuty ∧ (frameStart s).demand.steam = (demandAtFrame s).steam
      ∧ (frameStart s).demand.fastApplied = (demandAtFrame s).fastApplied := by
  rw [frameStart_demand]
  split <;> exact ⟨rfl, rfl, rfl, rfl, rfl⟩

theorem frameStart_sched : (frameStart s).sched = s.sched.formFrame (demandAtFrame s).requests :=
  (untouched_frameStart s).2.2.trans (framed_blocks s).2.2.2.2.2.2

theorem frameStart_drainOnEnd :
    (frameStart s).modes.drainOnEnd =
      (s.modes.drainOnEnd || decide (s.run.kind = .cook ∧ (demandAtFrame s).steam = .admitted)) := by
  rw [← framed_drainOnEnd]; simp [frameStart_eq]

variable {s}

theorem frameStart_unreported (h : (demandAtFrame s).steam ≠ .withheld ∨ s.demand.reported = true) :
    SteamUnreported s (frameStart s) := by
  have hposted := framed_posted s
  have hnone : (if (demandAtFrame s).steam = .withheld then (if (demandAtFrame s).reported then [] else [.steamWithheld])
      else ([] : List Notice)) = [] := by
    rw [demandAtFrame_reported]
    obtain h | h := h <;> simp [h]
  rw [hnone] at hposted
  have hframed := unreported_of_posted hposted (by simp)
  exact fun q => ((untouched_frameStart s).1 q).trans (hframed q)

theorem frameStart_reports (h : (demandAtFrame s).steam = .withheld) (hr : s.demand.reported = false) :
    Holds .steamWithheld (frameStart s) := by
  have hposted := framed_posted s
  rw [if_pos h, demandAtFrame_reported, hr] at hposted
  exact fun q => ((untouched_frameStart s).1 q).2 (holds_of_posted hposted (by simp) q)

/-- The report of a frame start (R93). -/
theorem frameStart_steamReported (s : State) : SteamReported s (frameStart s) := by
  unfold SteamReported
  rw [(frameStart_figures s).2.2.2.1]
  by_cases h : (demandAtFrame s).steam = .withheld
  · rw [if_pos h]
    exact ⟨by rw [frameStart_demand, if_pos h], frameStart_reports h⟩
  · rw [if_neg h, frameStart_demand, if_neg h]
    exact demandAtFrame_reported s

/-- A COOK run's frame carries the water unit's frame test for the steam level of its heating. -/
theorem frameStart_waterAtFrame {level : Nat} (hk : s.run.kind = .cook)
    (hwants : wantsSteam (framed s) = decide (0 < level ∧ ¬ SteamDenied s)) : WaterAtFrame level s (frameStart s) := by
  obtain ⟨hpins, _, hrun, _, hwater, hfaults, _⟩ := framed_blocks s
  exact frameWaterTest_waterAtFrame (f := framed s) (by rw [hrun]; exact hk) hwants hpins hrun hwater hfaults

/-! ### What each heating asks for -/

theorem boilerSteamRequest_dry {level : Nat} (h : s.pins.boilerLevel ≠ .wet) : boilerSteamRequest s level = 0 :=
  if_pos (by simpa [boilerWet] using h)

theorem boilerSteamRequest_wet {level : Nat} (h : s.pins.boilerLevel = .wet) :
    boilerSteamRequest s level = ((published s .boil).map fun b =>
      if b < 960 then 40
      else if (∃ v ∈ published s .vent, 990 ≤ v) then (level * 40 + 50) / 100 / 2 else (level * 40 + 50) / 100).getD 0 := by
  have hvent : (published s .vent).any (fun v => v ≥ 990) = true ↔ ∃ v ∈ published s .vent, 990 ≤ v := by
    cases published s .vent <;> simp
  unfold boilerSteamRequest
  rw [if_neg (by simp [boilerWet, h]), steamSlots_eq]
  cases hb : published s .boil with
  | none => rfl
  | some b => simp only [hvent, Option.map_some, Option.getD_some]

theorem frameStart_heatRequested {h : Heat} {fast : Bool} (hk : s.run.kind = .cook) (hh : heatingInForce s = .row h fast) :
    HeatRequested h fast s (frameStart s) := by
  obtain ⟨hrequests, hcavity, hfan, hsteam, hfast⟩ := frameStart_figures s
  rw [demandAtFrame_row hh] at hrequests hcavity hfan hfast
  have hdemand : cavityDemandOf h = fun cav => (max 0 (min 100 ((h.setpoint * (shareRow h.mode).hold).tdiv 1000
      + ((h.setpoint - cav) * 100).tdiv (shareRow h.mode).band))).toNat := funext fun cav => cavityDemandOf_eq h cav
  have hcondition : (frameStart s).demand.steam = steamConditionOf s h.steam := by rw [hsteam, demandAtFrame_row hh]
  refine ⟨?cavity, ?elements, hfan, hfast, ?condition, ?boiler, frameStart_steamReported s, fun hw => ?mark, fun hw => ?none,
    frameStart_waterAtFrame hk (wantsSteam_framed_row hh)⟩
  case cavity => rw [hcavity, hdemand]
  case elements =>
    rw [hrequests, ← hdemand]
    exact ⟨elementRequest_eq _ _, elementRequest_eq _ _, elementRequest_eq _ _, elementRequest_eq _ _⟩
  case condition => rw [hcondition, steamConditionOf_eq]
  case boiler =>
    have hrequest : (frameStart s).demand.requests.boiler =
        if steamConditionOf s h.steam = .admitted then boilerSteamRequest s h.steam else 0 := by rw [hrequests]
    rw [hrequest, hcondition]
    by_cases hadmitted : steamConditionOf s h.steam = .admitted
    · by_cases hwet : s.pins.boilerLevel = .wet
      · have hboth := And.intro hadmitted hwet
        rw [if_pos hadmitted, if_pos hboth, boilerSteamRequest_wet hwet]
        cases published s .boil <;> rfl
      · have hnot : ¬ (steamConditionOf s h.steam = .admitted ∧ s.pins.boilerLevel = .wet) := fun hboth => hwet hboth.2
        rw [if_pos hadmitted, if_neg hnot, boilerSteamRequest_dry hwet]
    · have hnot : ¬ (steamConditionOf s h.steam = .admitted ∧ s.pins.boilerLevel = .wet) := fun hboth => hadmitted hboth.1
      rw [if_neg hadmitted, if_neg hnot]
  case mark =>
    cases hr : s.demand.reported with
    | false => exact .inl rfl
    | true => exact .inr (frameStart_unreported (.inr hr))
  case none => exact frameStart_unreported (.inl (hsteam ▸ hw))

/-- A frame without heat has these figures and no report (R96). -/
theorem frameStart_nothingRequested {n : Nat} (hh : heatingInForce s = .off n) : NothingRequested n s (frameStart s) := by
  have hsteam : (demandAtFrame s).steam ≠ .withheld := by rw [demandAtFrame_off hh]; exact nofun
  exact ⟨by rw [frameStart_demand, if_neg hsteam, demandAtFrame_off hh], frameStart_unreported (.inl hsteam)⟩

theorem frameStart_waterAtFrame_off {n : Nat} (hk : s.run.kind = .cook) (hh : heatingInForce s = .off n) :
    WaterAtFrame 0 s (frameStart s) :=
  frameStart_waterAtFrame hk (by simp [wantsSteam_framed_off hh])

theorem frameStart_soakRequested (hh : heatingInForce s = .soak) : SoakRequested s (frameStart s) := by
  have hsteam : (demandAtFrame s).steam ≠ .withheld := by rw [demandAtFrame_soak hh]; exact nofun
  have hrequest : soakRequest s =
      if s.pins.boilerLevel = .dry then 0
      else ((published s .boil).map fun b => (max 0 (min 40 (((600 - b) * 40).tdiv 50))).toNat).getD 0 := by
    unfold soakRequest
    simp only [boilerWet_eq_false_iff]
    cases published s .boil with
    | none => rfl
    | some b => simp only [clampNat_eq]; rfl
  exact ⟨by rw [frameStart_demand, if_neg hsteam, demandAtFrame_soak hh, hrequest], frameStart_unreported (.inl hsteam)⟩

theorem frameStart_keepWarmRequested (hphase : s.run.phase = .keepWarm) : KeepWarmRequested s (frameStart s) := by
  have hh : heatingInForce s = .row keepWarmHeat false := by unfold heatingInForce; rw [hphase]
  have hsteam : (demandAtFrame s).steam = .notSteaming := by rw [demandAtFrame_row hh]; rfl
  have hwithheld : (demandAtFrame s).steam ≠ .withheld := by rw [hsteam]; exact nofun
  have hfigures : (frameStart s).demand = demandAtFrame s := by rw [frameStart_demand, if_neg hwithheld]
  have hcavity : (frameStart s).demand.cavityDemand = (published s .cav).map (cavityDemandOf keepWarmHeat) := by
    rw [hfigures, demandAtFrame_row hh]
  refine ⟨?_, ?_, ?_, by rw [hfigures, hsteam], ?_, ?_, frameStart_unreported (.inl hwithheld), fun hk => ?_⟩
  · rw [hcavity, show cavityDemandOf keepWarmHeat = _ from funext fun cav => cavityDemandOf_eq keepWarmHeat cav]
    rfl
  · simp only [hcavity]
    rw [hfigures, demandAtFrame_row hh]
    simp [shares, shareRow, keepWarmHeat, elementRequest_eq, steamConditionOf, Nat.mul_assoc]
  · rw [hfigures, demandAtFrame_row hh]; rfl
  · rw [hfigures, demandAtFrame_row hh]
  · rw [hfigures, demandAtFrame_row hh]
  · exact frameStart_waterAtFrame hk (wantsSteam_framed_row hh)

/-! ### The heating in force (R33, R88) -/

theorem heatingInForce_cook (hphase : s.run.phase = .steps) (hk : s.run.kind = .cook) :
    heatingInForce s = stepHeating s.run.options s.prog.steps s.run.stepIdx := by
  unfold heatingInForce; rw [hphase, hk]

theorem heatingInForce_cookStep {d : Option Nat} {g : List Guard} (hphase : s.run.phase = .steps) (hk : s.run.kind = .cook)
    (hstep : s.prog.steps[s.run.stepIdx]? = some (.cook h d g)) : heatingInForce s = .row h false := by
  rw [heatingInForce_cook hphase hk, stepHeating, hstep]

/-- The heating that a PROMPT step keeps of the step given: none of a REST step, and none where there is no step (R33). -/
def keptHeating (o : Options) : Option Step → Heating
  | some (.preheat h) => .row h (fastApplies o h)
  | some (.cook h _ _) => .row h false
  | some (.rest _ _) => .off 0
  | some (.prompt _ _ _) => .off 0
  | none => .off 0

/-- It is kept of the nearest earlier step that is not a PROMPT step. -/
theorem heldHeating_of_head {o : Options} {isPrompt : Step → Bool} {steps : List Step} {x : Option Step}
    (hhead : (steps.dropWhile isPrompt).head? = x) (hp : ∀ y, isPrompt y = true ↔ ∃ k n a, y = .prompt k n a) :
    heldHeating o steps = keptHeating o x := by
  subst hhead
  induction steps with
  | nil => rfl
  | cons y ys ih =>
    cases hy : y with
    | prompt k n a => rw [List.dropWhile_cons_of_pos ((hp _).2 ⟨k, n, a, rfl⟩)]; exact ih
    | preheat h => rw [List.dropWhile_cons_of_neg (mt (hp _).1 (by simp))]; rfl
    | cook h d g => rw [List.dropWhile_cons_of_neg (mt (hp _).1 (by simp))]; rfl
    | rest f d => rw [List.dropWhile_cons_of_neg (mt (hp _).1 (by simp))]; rfl

/-- The step found is no PROMPT step. -/
theorem head_dropWhile_ne_prompt {isPrompt : Step → Bool} {steps : List Step} {k : PromptKind} {n : Nat} {a : TimeoutAction}
    (hhead : (steps.dropWhile isPrompt).head? = some (.prompt k n a)) : isPrompt (.prompt k n a) = false := by
  have hnot := List.head?_dropWhile_not isPrompt steps
  rw [hhead] at hnot
  simpa using hnot

theorem heatingInForce_promptStep {k : PromptKind} {n : Nat} {a : TimeoutAction} {isPrompt : Step → Bool} {x : Option Step}
    (hphase : s.run.phase = .steps) (hk : s.run.kind = .cook)
    (hstep : s.prog.steps[s.run.stepIdx]? = some (.prompt k n a))
    (hhead : ((s.prog.steps.take s.run.stepIdx).reverse.dropWhile isPrompt).head? = x)
    (hp : ∀ y, isPrompt y = true ↔ ∃ k n a, y = .prompt k n a) : heatingInForce s = keptHeating s.run.options x := by
  rw [heatingInForce_cook hphase hk, stepHeating, hstep]
  exact heldHeating_of_head hhead hp

/-- A DESCALE run soaks at its steps 3 and 6 (R95, R141). -/
theorem heatingInForce_descale (hphase : s.run.phase = .steps) (hk : s.run.kind = .descale) :
    heatingInForce s = if s.run.stepIdx = 3 ∨ s.run.stepIdx = 6 then .soak else .off 0 := by
  have hsoak : currentBuiltin s = some .soak ↔ s.run.stepIdx = 3 ∨ s.run.stepIdx = 6 := by
    unfold currentBuiltin
    rw [if_pos hphase, hk]
    by_cases hlt : s.run.stepIdx < 11
    · interval_cases s.run.stepIdx <;> decide
    · rw [List.getElem?_eq_none (by simpa [builtinProgram] using hlt)]
      simp only [reduceCtorEq, false_iff]
      omega
  unfold heatingInForce
  rw [hphase, hk]
  simp only [hsoak]

theorem frameStart_promptRequested (hphase : s.run.phase = .steps) (hk : s.run.kind = .cook)
    {k : PromptKind} {n : Nat} {a : TimeoutAction} (hstep : s.prog.steps[s.run.stepIdx]? = some (.prompt k n a)) :
    PromptRequested s.run.stepIdx s (frameStart s) := by
  unfold PromptRequested
  simp only
  split
  · next h hhead =>
    have hkept := heatingInForce_promptStep hphase hk hstep hhead fun y => by cases y <;> simp
    exact frameStart_heatRequested hk hkept
  · next h d g hhead =>
    have hkept := heatingInForce_promptStep hphase hk hstep hhead fun y => by cases y <;> simp
    exact frameStart_heatRequested hk hkept
  · next f d hhead =>
    have hkept := heatingInForce_promptStep hphase hk hstep hhead fun y => by cases y <;> simp
    exact ⟨frameStart_nothingRequested hkept, frameStart_waterAtFrame_off hk hkept⟩
  · next hhead => simpa using head_dropWhile_ne_prompt hhead
  · next hhead =>
    have hkept := heatingInForce_promptStep hphase hk hstep hhead fun y => by cases y <;> simp
    exact ⟨frameStart_nothingRequested hkept, frameStart_waterAtFrame_off hk hkept⟩

/-- Every frame start asks for what the heating in force asks for (R88). -/
theorem frameStart_asked (s : State) : FrameAsked s (frameStart s) := by
  unfold FrameAsked
  cases hphase : s.run.phase with
  | keepWarm => exact frameStart_keepWarmRequested hphase
  | steps =>
    cases hk : s.run.kind with
    | cook =>
      have hheating := heatingInForce_cook hphase hk
      cases hstep : s.prog.steps[s.run.stepIdx]? with
      | none => trivial
      | some x =>
        cases x with
        | prompt k n a => exact frameStart_promptRequested hphase hk hstep
        | preheat h =>
          rw [stepHeating, hstep] at hheating
          exact frameStart_heatRequested hk hheating
        | cook h d g => exact frameStart_heatRequested hk (heatingInForce_cookStep hphase hk hstep)
        | rest f d =>
          rw [stepHeating, hstep] at hheating
          exact ⟨frameStart_nothingRequested hheating, frameStart_waterAtFrame_off hk hheating⟩
    | descale =>
      have hheating := heatingInForce_descale hphase hk
      simp only
      split
      · next hsoak => exact frameStart_soakRequested (hheating.trans (if_pos hsoak))
      · next hsoak => exact frameStart_nothingRequested (hheating.trans (if_neg hsoak))
    | rinse => exact frameStart_nothingRequested (by unfold heatingInForce; rw [hphase, hk])
    | none => trivial

end

/-! ### The end of slot 39 (R103, R108) -/

theorem form_eq (e : Entry) (demand : Nat) :
    e.form demand =
      { e with
        request := frameRequest e demand
        remaining := frameRequest e demand
        granted := 0
        rampBase := frameRequest e demand
        sheds := 0 } := rfl

/-- A frame start begins a frame (R86). -/
theorem frameStart_begun (s : State) : FrameBegun s (frameStart s) := by
  obtain ⟨_, hprog, hrun, _⟩ := frameStart_keeps s
  obtain ⟨hrequests, _, _, hsteam, _⟩ := frameStart_figures s
  unfold FrameBegun
  rw [hrun, hprog, hsteam, hrequests, frameStart_sched]
  refine ⟨frameStart_steamReported s, frameStart_asked s, frameStart_drainOnEnd s, fun l => ?_, rfl⟩
  rw [← form_eq]
  exact PerLoad.get_zip ..

section
variable {s : State} (hframe : s.sched.frameRunning = true) (hrun : s.run.state = .running)
  (hstarted : s.sched.slotStarted = true) (hslot : s.sched.slot = 39)
include hframe hrun hstarted hslot

theorem exec_frameComplete : exec .frameComplete s = .next (completeFrame s) :=
  congrArg Host.Outcome.next (if_pos ⟨(SlotWalk.frameLive_iff s).2 ⟨hframe, hrun⟩, hstarted, hslot⟩)

end

section
variable (s : State)

theorem completeFrame_begun : FrameBegun { s with sched := s.sched.recordShortfall } (completeFrame s) :=
  frameStart_begun (s.mapSched Sched.recordShortfall)

theorem completeFrame_shortfall (l : Load) :
    ((completeFrame s).sched.entries.get l).shortfall = (s.sched.entries.get l).remaining := by
  obtain ⟨_, _, _, hentries, _⟩ := completeFrame_begun s
  rw [hentries l]
  simp [Sched.recordShortfall]

theorem completeFrame_sched :
    (completeFrame s).sched =
      { s.sched.recordShortfall with
        entries := (completeFrame s).sched.entries
        frameRunning := true
        slot := 0
        slotStarted := false } := by
  obtain ⟨_, _, _, _, hsched⟩ := completeFrame_begun s
  exact hsched

theorem completeFrame_sameExcept : SameExcept stepBlocks s (completeFrame s) := by
  intro b hb
  cases b <;> simp [Block.same, stepBlocks, completeFrame] at hb ⊢

theorem startSlotNumber_figures (n : Nat) :
    (startSlotNumber n s).sched.slot = n ∧ (startSlotNumber n s).sched.slotStarted = true
      ∧ (startSlotNumber n s).demand = s.demand
      ∧ (startSlotNumber n s).modes.fanOut = (startSlotNumber n s).demand.fanDuty :=
  ⟨rfl, rfl, rfl, rfl⟩

/-- A slot decided keeps the shortfall of each entry. -/
theorem startSlotNumber_shortfall (n : Nat) (l : Load) :
    ((startSlotNumber n s).sched.entries.get l).shortfall = (s.sched.entries.get l).shortfall := by
  have hentry := (SlotWalk.slotWalk_walked n s).entry l
  rw [SlotWalk.startSlotNumber_sched, hentry]
  cases ((SlotWalk.slotWalk n s).entries.get l).on <;> rfl

end

/-- A frame completed on what a slot start finds leaves no budget for the next slot start to take first. -/
theorem slotFinds_completeFrame (s : State) : slotFinds (completeFrame (slotFinds s)) = completeFrame (slotFinds s) := by
  have hmeas : (completeFrame (slotFinds s)).meas = (slotFinds s).meas := by simp [completeFrame]
  have hmeasured : (completeFrame (slotFinds s)).sched.measured = (slotFinds s).sched.measured := by
    rw [completeFrame_sched]; rfl
  rw [SlotWalk.slotFinds_eq (completeFrame _)]
  unfold measuredBudget
  split
  · rfl
  · next h =>
    rw [hmeasured] at h
    exact SlotWalk.takeBudget_of_not_owed (hmeas ▸ (SlotWalk.slotFinds_settled s).resolve_left h)

/-- Settles O50: the frame that FRAME_COMPLETE begins, and the slot start that decides its slot 0, in two rows or in one. -/
theorem framesComplete : Obligations.FramesComplete := by
  intro s hframe hrun hstarted hslot
  obtain ⟨hsame, hframe', hslot', hstarted', _⟩ := SlotWalk.slotFinds_keeps s
  have hrun' : (slotFinds s).run = s.run := hsame .run (by decide)
  have hlive : frameLive s = true := (SlotWalk.frameLive_iff s).2 ⟨hframe, hrun⟩
  have hkept : (completeFrame (slotFinds s)).run = s.run := by simp [completeFrame, hrun']
  have hsched := completeFrame_sched (slotFinds s)
  have hrunning : (completeFrame (slotFinds s)).sched.frameRunning = true := by rw [hsched]
  have hfresh : (completeFrame (slotFinds s)).sched.slotStarted = false := by rw [hsched]
  have hzero : (completeFrame (slotFinds s)).sched.slot = 0 := by rw [hsched]
  refine ⟨⟨_, exec_frameComplete hframe hrun hstarted hslot, completeFrame_shortfall s, completeFrame_begun s,
      by simp [completeFrame], completeFrame_sameExcept s⟩,
    completeFrame (slotFinds s),
    exec_frameComplete (hframe'.trans hframe) (by rw [hrun', hrun]) (hstarted'.trans hstarted) (hslot'.trans hslot),
    completeFrame_begun (slotFinds s), hkept, hrunning, hfresh, hzero, startSlotNumber 0 (completeFrame (slotFinds s)), ?one, ?two,
    fun l => ?shortfall, startSlotNumber_figures _ 0⟩
  case one =>
    have hdue : slotDue (slotFinds s) = startSlotNumber 0 (completeFrame (slotFinds s)) := by
      unfold slotDue
      rw [if_neg (by simp [hstarted', hstarted]), if_neg (by simp [hslot', hslot])]
    rw [SlotWalk.exec_slotStart hlive, hdue]
  case two =>
    have hlive' : frameLive (completeFrame (slotFinds s)) = true :=
      (SlotWalk.frameLive_iff _).2 ⟨hrunning, by rw [hkept, hrun]⟩
    rw [SlotWalk.exec_slotStart hlive', slotFinds_completeFrame, SlotWalk.slotDue_within (by simp [hfresh])]
    simp [SlotWalk.nextSlot, hfresh, hzero]
  case shortfall => rw [startSlotNumber_shortfall, completeFrame_shortfall]

/-- Settles O51: the figures of a COOK step's heating, with CAV published and without. -/
theorem framesAskForHeat : Obligations.FramesAskForHeat := by
  intro s hframe hrun hstarted hslot hk hphase h d g hstep
  have hheating : heatingInForce (s.mapSched Sched.recordShortfall) = .row h false :=
    heatingInForce_cookStep hphase hk hstep
  have hrequested : HeatRequested h false s (completeFrame s) :=
    frameStart_heatRequested (s := s.mapSched Sched.recordShortfall) hk hheating
  obtain ⟨hcavity, ⟨hring, htop, hbottom, hgrill⟩, _⟩ := id hrequested
  refine ⟨completeFrame s, exec_frameComplete hframe hrun hstarted hslot, ?_, ?_, hrequested⟩
  · intro cav hcav
    rw [hcav] at hcavity hring htop hbottom hgrill
    exact ⟨hcavity, hring, htop, hbottom, hgrill⟩
  · intro hcav
    rw [hcav] at hcavity hring htop hbottom hgrill
    exact ⟨hcavity, by simpa using hring, by simpa using htop, by simpa using hbottom, by simpa using hgrill⟩

end Sys2Proof.Machine.FrameDemand
end

section
/-! PROOF. What a step can do to the loads, the hold, the mode and the frame (for O54, O55): the few fields that those properties
read, the moves by which they change, and each shared operation, owner and event as a run of such moves. -/

namespace Sys2Proof.Machine.SafeMoves

open Sys2Proof Sys2Proof.Machine
open PromptOrder ScaleGate SlotWalk FrameDemand

/-! ### The fields and the moves -/

/-- What the properties of O54 and O55 read off a state. -/
structure Core where
  state : RunState
  kind : RunKind
  doorOpen : Bool
  level : BoilerLevel
  hold : Bool
  captured : Bool
  mode : ApplianceMode
  idleSet : Bool
  coolingSet : Bool
  steam : SteamCondition
  sched : Sched

def coreOf (s : State) : Core where
  state := s.run.state
  kind := s.run.kind
  doorOpen := s.pins.doorOpen
  level := s.pins.boilerLevel
  hold := s.faults.hold
  captured := s.faults.capture.isSome
  mode := s.modes.mode
  idleSet := s.modes.idle.isSome
  coolingSet := s.modes.cooling.isSome
  steam := s.demand.steam
  sched := s.sched

/-- The loads cut and the demand unit idle (R98, R109). -/
def Core.cut (c : Core) : Core := { c with sched := c.sched.cut, steam := .notSteaming }

/-- The mode as AFTER_RUN is entered (R170). -/
def Core.afterRun (c : Core) : Core := { c with mode := .afterRun, idleSet := false, coolingSet := true }

/-- A run ended, before AFTER_RUN can be left (R42). -/
def Core.ended (c : Core) : Core := { c.cut.afterRun with state := .ended }

/-- Steam withdrawn within a frame (R94, R111). -/
def Core.withdrawn (c : Core) : Core := { c with sched := c.sched.withdrawBoiler, steam := .withheld }

/-- The same frame at the same position, entry by entry. -/
structure SameFrame (u v : Sched) : Prop where
  frameRunning : v.frameRunning = u.frameRunning
  slot : v.slot = u.slot
  slotStarted : v.slotStarted = u.slotStarted
  entry : ∀ l, (v.entries.get l).on = (u.entries.get l).on ∧ (v.entries.get l).request = (u.entries.get l).request
    ∧ (v.entries.get l).remaining = (u.entries.get l).remaining ∧ (v.entries.get l).granted = (u.entries.get l).granted

/-- No frame, and every entry off and without a request (R120). -/
structure NoFrame (u : Sched) : Prop where
  frameRunning : u.frameRunning = false
  slot : u.slot = 0
  slotStarted : u.slotStarted = false
  entry : ∀ l, (u.entries.get l).on = false ∧ (u.entries.get l).request = 0 ∧ (u.entries.get l).remaining = 0
    ∧ (u.entries.get l).granted = 0

/-- The run may leave RUNNING: its loads are cut. -/
abbrev Core.MayLeave (c : Core) : Prop := c.state = .running → c.sched.frameRunning = false ∧ c.steam ≠ .admitted

/-- Everything that one command or event does to these fields is a run of such moves, with what is known where each is made.
Requests are bounded where F holds: the program table's steam levels are then within their range. -/
inductive Move (F : Prop) : Core → Core → Prop
  | wake {c : Core} (h : c.mode = .standby ∨ c.mode = .ready) : Move F c { c with mode := .ready, idleSet := true }
  | sleep {c : Core} (h : c.mode = .ready) : Move F c { c with mode := .standby, idleSet := false }
  | settle {c : Core} (h : c.mode = .afterRun) :
      Move F c { c with mode := .ready, idleSet := true, coolingSet := false }
  | afterRun {c : Core} (h : c.state.active = false) : Move F c c.afterRun
  | door {c : Core} (b : Bool) (h : b = true → c.state ≠ .running) : Move F c { c with doorOpen := b }
  | level {c : Core} (v : BoilerLevel) (h : (c.sched.entries.get .boiler).on = true → v = .wet) :
      Move F c { c with level := v }
  | hold {c : Core} (h : c.state.active = false) : Move F c { c with hold := true, captured := true }
  | release {c : Core} : Move F c { c with hold := false, captured := false }
  | start {c : Core} (k : RunKind) (st : RunState) (hidle : c.state.active = false) (hhold : c.hold = false)
      (hdoor : c.doorOpen = false) (hst : st.active = true) :
      Move F c { c with state := st, kind := k, mode := .active, idleSet := false, coolingSet := false }
  | run {c : Core} (st : RunState) (hactive : c.state.active = true) (hst : st.active = true) (hleave : c.MayLeave)
      (hdoor : st = .running → c.doorOpen = false) : Move F c { c with state := st }
  | ended {c : Core} : Move F c c.ended
  | reset {c c' : Core} (hstate : c'.state = .idle) (hmode : c'.mode = .ready ∨ c'.mode = .standby)
      (hidle : c'.idleSet = true ↔ c'.mode = .ready) (hcooling : c'.coolingSet = false) (hsteam : c'.steam = .notSteaming)
      (hsched : NoFrame c'.sched)
      (hhold : c'.captured = c'.hold ∨ c'.hold = c.hold ∧ c'.captured = c.captured) : Move F c c'
  | cut {c : Core} : Move F c c.cut
  | withdraw {c : Core} : Move F c c.withdrawn
  | frame {c : Core} (requests : PerLoad Nat) (steam : SteamCondition) (hrun : c.state = .running)
      (hfit : F → ∀ l, requests.get l ≤ 40) (hcook : steam = .admitted → c.kind = .cook) :
      Move F c { c with sched := c.sched.formFrame requests, steam := steam }
  | slot {c : Core} (n : Nat) (hframe : c.sched.frameRunning = true) (hn : n = c.sched.slot ∨ n ≤ 39) :
      Move F c { c with sched := c.sched.startSlot (decide (c.level = .wet)) n }
  | switchOff {c : Core} (l : Load) : Move F c { c with sched := c.sched.switchOff l }
  | refigure {c : Core} (u : Sched) (h : SameFrame c.sched u) : Move F c { c with sched := u }

/-- A run of moves. -/
abbrev Reach (F : Prop) : Core → Core → Prop := Relation.ReflTransGen (Move F)

theorem Reach.of_eq {F : Prop} {c c' : Core} (h : c' = c) : Reach F c c' := h ▸ .refl

/-! ### The program table's steam levels (R5) -/

/-- A record's steam level is within 0 to 100. -/
def LevelFits : Step → Prop
  | .preheat h => h.steam ≤ 100
  | .cook h _ _ => h.steam ≤ 100
  | .prompt _ _ _ => True
  | .rest _ _ => True

abbrev LevelsFit (steps : List Step) : Prop := ∀ x ∈ steps, LevelFits x

theorem clampSteam_le (m : HeatMode) (n : Nat) : clampSteam m n ≤ 100 := by
  unfold clampSteam
  cases m <;> simp only <;> [omega; omega; omega; omega; omega; omega; (split <;> [omega; (split <;> omega)])]

theorem levelFits_of_acceptable {x : Step} (h : x.acceptable = true) : LevelFits x := by
  simp only [Step.acceptable, Bool.and_eq_true, decide_eq_true_eq] at h
  obtain ⟨⟨-, hclamp⟩, -⟩ := h
  cases x with
  | preheat h =>
    have hs : (clampHeat h).steam = h.steam := by rw [Step.preheat.inj hclamp]
    exact hs.symm.le.trans (clampSteam_le _ _)
  | cook h d g =>
    have hs : (clampHeat h).steam = h.steam := by rw [(Step.cook.inj hclamp).1]
    exact hs.symm.le.trans (clampSteam_le _ _)
  | prompt k t a => trivial
  | rest f d => trivial

theorem adjustStep_fits (f : AdjustField) (value : Half) {x : Step} (h : LevelFits x) : LevelFits (adjustStep f value x) := by
  have hheat : ∀ y : Heat, y.steam ≤ 100 → (adjustHeat f value y).steam ≤ 100 := fun y hy => by
    cases f
    case steam => exact clampSteam_le _ _
    all_goals exact hy
  cases x with
  | preheat y => exact hheat y h
  | cook y d g => exact hheat y h
  | prompt k t a => trivial
  | rest fan d => trivial

/-! ### From one state to another -/

/-- t is reached from s by moves, and the levels that F rests on still fit. -/
def Moves (F : Prop) (s t : State) : Prop :=
  (F → LevelsFit s.prog.steps) → (F → LevelsFit t.prog.steps) ∧ Reach F (coreOf s) (coreOf t)

section
variable {F : Prop} {s t u : State}

theorem Moves.refl (s : State) : Moves F s s := fun h => ⟨h, .refl⟩

theorem Moves.trans (h : Moves F s t) (h' : Moves F t u) : Moves F s u := fun hfit =>
  have ⟨hfit', hreach⟩ := h hfit
  have ⟨hfit'', hreach'⟩ := h' hfit'
  ⟨hfit'', hreach.trans hreach'⟩

theorem moves_of_reach (h : Reach F (coreOf s) (coreOf t)) (hp : t.prog = s.prog) : Moves F s t :=
  fun hfit => ⟨hp ▸ hfit, h⟩

theorem moves_of_coreOf_eq (h : coreOf t = coreOf s) (hp : t.prog = s.prog) : Moves F s t := moves_of_reach (.of_eq h) hp

theorem moves_of_move (h : Move F (coreOf s) (coreOf t)) (hp : t.prog = s.prog) : Moves F s t := moves_of_reach (.single h) hp

end

/-! ### Steam withdrawn, or nothing (R94) -/

/-- Either nothing was read to move, or steam was withdrawn from a frame ADMITTED to it. -/
def Gated (c c' : Core) : Prop := c' = c ∨ c.steam = .admitted ∧ c' = c.withdrawn

theorem Gated.trans {c c' c'' : Core} (h : Gated c c') (h' : Gated c' c'') : Gated c c'' := by
  obtain rfl | ⟨hsteam, rfl⟩ := h
  · exact h'
  · obtain rfl | ⟨hsteam', -⟩ := h'
    · exact .inr ⟨hsteam, rfl⟩
    · cases hsteam'

theorem Gated.reach {F : Prop} {c c' : Core} (h : Gated c c') : Reach F c c' := by
  obtain rfl | ⟨-, rfl⟩ := h
  · exact .refl
  · exact .single .withdraw

theorem Gated.eq_of_not_steaming {c c' : Core} (h : Gated c c') (hsteam : c.steam ≠ .admitted) : c' = c :=
  h.resolve_right fun hw => hsteam hw.1

theorem gated_of_eq {c c' : Core} (h : c' = c) : Gated c c' := .inl h

section
variable (s : State)

@[simp] theorem coreOf_postAll (k : Notice) : coreOf (postAll k s) = coreOf s := by simp [coreOf]

@[simp] theorem coreOf_mapWater (f : Water → Water) : coreOf (s.mapWater f) = coreOf s := by simp [coreOf]

@[simp] theorem coreOf_mapMeas (f : Meas → Meas) : coreOf (s.mapMeas f) = coreOf s := by simp [coreOf]

@[simp] theorem coreOf_toIdle : coreOf (toIdle s) = coreOf s := by simp [coreOf]

@[simp] theorem coreOf_saveAccount : coreOf (saveAccount s) = coreOf s := by simp [coreOf]

@[simp] theorem coreOf_requestSave : coreOf (requestSave s) = coreOf s := by simp [coreOf]

@[simp] theorem coreOf_fillNeedTest : coreOf (fillNeedTest s) = coreOf s := by simp [coreOf]

@[simp] theorem coreOf_coolTest (b : Option Int) : coreOf (coolTest b s) = coreOf s := by simp [coreOf]

@[simp] theorem coreOf_withdrawWhere (fits : Prompt → Bool) : coreOf (withdrawWhere fits s) = coreOf s := by simp [coreOf]

theorem steamGateClosing_gated : Gated (coreOf s) (coreOf (steamGateClosing s)) := by
  by_cases h : Steaming s
  · refine .inr ⟨h.2.2, ?_⟩
    unfold steamGateClosing
    rw [if_pos h]
    simp [coreOf, Core.withdrawn, reportWithheld_demand]
  · exact gated_of_eq (by rw [steamGateClosing_elsewhere h])

theorem noteGate_gated (before : Bool) : Gated (coreOf s) (coreOf (noteGate before s)) := by
  have hclose := steamGateClosing_gated (postAll .waterChanged s)
  unfold noteGate
  split
  · exact gated_of_eq rfl
  · split
    · exact hclose
    · exact gated_of_eq (coreOf_postAll s _)

theorem noteScale_gated (before : ScaleState) : Gated (coreOf s) (coreOf (noteScale before s)) := by
  have hclose := steamGateClosing_gated (postAll .waterChanged s)
  unfold noteScale
  split
  · exact gated_of_eq rfl
  · split
    · exact hclose
    · exact gated_of_eq (coreOf_postAll s _)

theorem setRinseOwed_gated (v : Bool) : Gated (coreOf s) (coreOf (setRinseOwed v s)) := by
  have hclose := steamGateClosing_gated (postAll .waterChanged (s.mapWater fun w => { w with rinseOwed := v }))
  unfold setRinseOwed
  simp only
  split
  · exact gated_of_eq rfl
  · split
    · exact hclose
    · exact gated_of_eq rfl

theorem accrueScale_gated (volume : Nat) : Gated (coreOf s) (coreOf (accrueScale volume s)) := by
  have hnote := noteScale_gated (s.mapWater fun w => w.accrue volume) (scaleState s)
  unfold accrueScale
  split
  · simp only
    split
    · rw [coreOf_saveAccount]; exact hnote
    · exact hnote
  · exact gated_of_eq rfl

theorem concludeFill_gated : Gated (coreOf s) (coreOf (concludeFill s)) := by
  unfold concludeFill
  simp only
  split
  · exact accrueScale_gated ((toIdle (s.mapWater _)).mapModes fun c => { c with drainOnEnd := true }) _
  · exact gated_of_eq rfl

theorem beginDrain_gated (p : Purpose) : Gated (coreOf s) (coreOf (beginDrain p s)) := by
  refine Gated.trans (gated_of_eq ?_) (noteGate_gated _ _)
  simp

theorem beginWaiting_gated : Gated (coreOf s) (coreOf (beginWaiting s)) := by
  unfold beginWaiting
  split
  · split
    · exact beginDrain_gated (s.mapWater fun w => { w with stepDrainWaiting := false }) _
    · split
      · exact beginDrain_gated s _
      · exact gated_of_eq rfl
  · exact gated_of_eq rfl

theorem requestStepDrain_gated : Gated (coreOf s) (coreOf (requestStepDrain s)) :=
  beginWaiting_gated (s.mapWater fun w => { w with stepDrainWaiting := true })

theorem requestAfterRunDrain_gated : Gated (coreOf s) (coreOf (requestAfterRunDrain s)) := by
  unfold requestAfterRunDrain
  split
  · exact gated_of_eq rfl
  · exact beginWaiting_gated (s.mapWater fun w => { w with drainPending := true })

theorem afterIdle_gated : Gated (coreOf s) (coreOf (afterIdle s)) := by
  rw [afterIdle, coreOf_fillNeedTest]
  exact beginWaiting_gated s

theorem refuseSteam_gated : Gated (coreOf s) (coreOf (refuseSteam s)) := by
  rw [refuseSteam, coreOf_toIdle, coreOf_postAll]
  exact noteGate_gated (s.mapWater fun w => { w with declineMark := true }) _

theorem waterRunEnd_gated : Gated (coreOf s) (coreOf (waterRunEnd s)) := by
  unfold waterRunEnd
  simp only [coreOf_mapWater]
  cases s.water.op
  case verifying =>
    show Gated _ (coreOf (if boilerWet s then concludeFill s else toIdle s))
    split
    · exact concludeFill_gated s
    · exact gated_of_eq (coreOf_toIdle s)
  all_goals exact gated_of_eq (by simp)

@[simp] theorem coreOf_stopOperation : coreOf (stopOperation s) = coreOf s := by simp [coreOf]

@[simp] theorem coreOf_coolingFan (cav : Option Int) : coreOf (coolingFan cav s) = coreOf s := by
  unfold coolingFan
  split <;> simp [coreOf]

end

theorem moves_of_gated {F : Prop} {s t : State} (h : Gated (coreOf s) (coreOf t)) (hp : t.prog = s.prog) : Moves F s t :=
  moves_of_reach h.reach hp

/-! ### Frames (R86 to R96, R103) -/

/-- A heating whose steam level is in range, with FAST_PREHEAT additions in the two modes of R19 only. -/
def HeatingFits : Heating → Prop
  | .row h fast => h.steam ≤ 100 ∧ (fast = true → h.mode = .convect ∨ h.mode = .combi)
  | .soak => True
  | .off _ => True

theorem row_fits {h : Heat} (o : Options) (hl : h.steam ≤ 100) : HeatingFits (.row h (fastApplies o h)) :=
  ⟨hl, fun hf => by simpa [fastApplies] using (Bool.and_eq_true_iff.1 hf).2⟩

theorem slow_row_fits {h : Heat} (hl : h.steam ≤ 100) : HeatingFits (.row h false) := ⟨hl, nofun⟩

theorem heldHeating_fits (o : Options) {steps : List Step} (h : LevelsFit steps) : HeatingFits (heldHeating o steps) := by
  induction steps with
  | nil => trivial
  | cons x xs ih =>
    have hx := h x List.mem_cons_self
    cases x with
    | preheat y => exact row_fits o hx
    | cook y d g => exact slow_row_fits hx
    | rest f d => trivial
    | prompt k t a => exact ih fun y hy => h y (List.mem_cons_of_mem _ hy)

theorem stepHeating_fits (o : Options) {steps : List Step} (i : Nat) (h : LevelsFit steps) :
    HeatingFits (stepHeating o steps i) := by
  unfold stepHeating
  split
  · next y hy => exact row_fits o (h _ (List.mem_of_getElem? hy))
  · next y d g hy => exact slow_row_fits (h _ (List.mem_of_getElem? hy))
  · trivial
  · exact heldHeating_fits o fun x hx => h x (List.take_subset _ _ (List.mem_reverse.1 hx))
  · trivial

theorem heatingInForce_fits {s : State} (h : LevelsFit s.prog.steps) : HeatingFits (heatingInForce s) := by
  unfold heatingInForce
  split
  · exact slow_row_fits (by decide)
  · split
    · exact stepHeating_fits _ _ h
    · split <;> trivial
    · trivial
    · trivial

theorem shares_le {m : HeatMode} {fast : Bool} (hfast : fast = true → m = .convect ∨ m = .combi) (l : Load) :
    (shares m fast).get l ≤ 100 := by
  cases fast
  · cases m <;> cases l <;> decide
  · obtain rfl | rfl := hfast rfl <;> cases l <;> decide

theorem elementRequest_le {demand share : Nat} (hd : demand ≤ 100) (hs : share ≤ 100) : elementRequest demand share ≤ 40 := by
  have hprod : demand * share ≤ 100 * 100 := Nat.mul_le_mul hd hs
  rw [elementRequest_eq]
  omega

theorem clampNat_le (x : Int) (n : Nat) : clampNat x n ≤ n := Nat.min_le_right _ _

theorem demand_le (h : Heat) (cav : Option Int) : (cav.map (cavityDemandOf h)).getD 0 ≤ 100 := by
  cases cav with
  | none => exact Nat.zero_le _
  | some v => exact clampNat_le _ _

theorem boilerSteamRequest_le (s : State) {level : Nat} (h : level ≤ 100) : boilerSteamRequest s level ≤ 40 := by
  have hslots : steamSlots level ≤ 40 := by rw [steamSlots_eq]; omega
  unfold boilerSteamRequest
  split
  · omega
  · split
    · omega
    · split
      · omega
      · split <;> omega

theorem soakRequest_le (s : State) : soakRequest s ≤ 40 := by
  unfold soakRequest
  split
  · omega
  · split
    · omega
    · exact clampNat_le _ _

/-- No request is for more than the 40 slots of a frame (R89, R90, R92, R95). -/
theorem demandAtFrame_requests_le {s : State} (h : LevelsFit s.prog.steps) (l : Load) :
    (demandAtFrame s).requests.get l ≤ 40 := by
  have hfits := heatingInForce_fits h
  cases hh : heatingInForce s with
  | row y fast =>
    rw [hh] at hfits
    obtain ⟨hlevel, hfast⟩ := hfits
    have helement := fun m => elementRequest_le (demand_le y (published s .cav)) (shares_le hfast m)
    rw [demandAtFrame_row hh]
    cases l
    case boiler =>
      show (if _ then _ else _) ≤ 40
      split
      · exact boilerSteamRequest_le s hlevel
      · omega
    case ring => exact helement .ring
    case top => exact helement .top
    case bottom => exact helement .bottom
    case grill => exact helement .grill
  | soak =>
    rw [demandAtFrame_soak hh]
    cases l
    case boiler => exact soakRequest_le s
    all_goals exact Nat.zero_le _
  | off n =>
    rw [demandAtFrame_off hh]
    cases l <;> exact Nat.zero_le _

/-- A frame is ADMITTED to steam in a COOK run only (R91, R95). -/
theorem cook_of_admitted {s : State} (h : (demandAtFrame s).steam = .admitted) : s.run.kind = .cook := by
  cases hh : heatingInForce s with
  | row y fast =>
    rw [demandAtFrame_row hh] at h
    obtain ⟨hlevel, -⟩ := (steamConditionOf_admitted_iff s y.steam).1 h
    unfold heatingInForce at hh
    split at hh
    · cases hh
      cases hlevel
    · split at hh
      · assumption
      · split at hh <;> cases hh
      · cases hh
      · cases hh
  | soak => rw [demandAtFrame_soak hh] at h; cases h
  | off n => rw [demandAtFrame_off hh] at h; cases h

section
variable {F : Prop}

/-- Of the mode controller a frame start moves the drain-on-end mark alone (R170). -/
theorem frameStart_mode (s : State) :
    (frameStart s).modes.mode = s.modes.mode ∧ (frameStart s).modes.idle = s.modes.idle
      ∧ (frameStart s).modes.cooling = s.modes.cooling := by
  rw [frameStart_eq, (frameWaterTest_keeps _).2.2.2.2.2.1]
  unfold framed
  simp only
  split <;> split <;> simp [formed]

theorem frameStart_moves {s : State} (hrun : s.run.state = .running) : Moves F s (frameStart s) := fun hfit => by
  have hcore : coreOf (frameStart s) =
      { coreOf s with sched := s.sched.formFrame (demandAtFrame s).requests, steam := (demandAtFrame s).steam } := by
    obtain ⟨-, -, -, hsteam, -⟩ := frameStart_figures s
    simp [coreOf, frameStart_sched, hsteam, frameStart_mode]
  have hmove : Move F (coreOf s) (coreOf (frameStart s)) := by
    rw [hcore]
    exact .frame _ _ hrun (fun hF => demandAtFrame_requests_le (hfit hF)) cook_of_admitted
  exact moves_of_move hmove (by simp) hfit

theorem restart_moves (s : State) : Moves F s (restart s) := by
  unfold restart
  split
  · next hrun => exact frameStart_moves hrun
  · exact .refl s

/-! ### Run ends (R42, R170, R171) -/

theorem leaveAfterRun_reach (s : State) : Reach F (coreOf s) (coreOf (leaveAfterRun s)) := by
  unfold leaveAfterRun
  split
  · next h => exact .single (.settle h.1)
  · exact .refl

/-- s with AFTER_RUN entered and told, before its drain is asked for (R158, R170). -/
def afterRunEntered (s : State) : State :=
  let s1 := if s.modes.mode = .standby then wakeRounds s else s
  let s2 := s1.mapModes fun c =>
    { c with
      mode := .afterRun
      idle := none
      cooling := some (if (published s .cav).any (fun v => v < 700) then .cooled else .cooling) }
  if s.modes.mode = .afterRun then s2 else postAll .modeChanged s2

theorem coreOf_afterRunEntered (s : State) : coreOf (afterRunEntered s) = (coreOf s).afterRun := by
  unfold afterRunEntered
  simp only
  split <;> split <;> simp [coreOf, Core.afterRun]

theorem enterAfterRun_eq (drain : Bool) (s : State) :
    enterAfterRun drain s = leaveAfterRun (coolingFan (published s .cav)
      (if drain then requestAfterRunDrain (afterRunEntered s) else afterRunEntered s)) := rfl

/-- AFTER_RUN entered with no steam to withdraw, and left at once where it may be. -/
theorem enterAfterRun_reach (drain : Bool) {s : State} (hsteam : s.demand.steam ≠ .admitted) :
    Reach F (coreOf s).afterRun (coreOf (enterAfterRun drain s)) := by
  have hentered := coreOf_afterRunEntered s
  have hdrain : coreOf (requestAfterRunDrain (afterRunEntered s)) = (coreOf s).afterRun := by
    rw [← hentered]
    exact (requestAfterRunDrain_gated _).eq_of_not_steaming (by rw [hentered]; exact hsteam)
  rw [enterAfterRun_eq]
  refine (Reach.of_eq ?_).trans (leaveAfterRun_reach _)
  rw [coreOf_coolingFan]
  split
  · exact hdrain
  · exact hentered

theorem coreOf_cutLoads (s : State) : coreOf (cutLoads s) = (coreOf s).cut := by
  simp [coreOf, Core.cut, cutLoads, Demand.idle]

/-- A run end, from the run ended with its loads cut. -/
theorem runEnd_reach (cause : EndCause) (finalDrain : Bool) (s : State) :
    Reach F (coreOf s).ended (coreOf (runEnd cause finalDrain s)) := by
  let s1 := (cutLoads (s.mapRun fun r => r.ended cause)).mapMeas Meas.dropJudgement
  let s3 := saveAccount (noteGate (gateWithheld s) (waterRunEnd (withdrawWhere (fun _ => true) s1)))
  have hs1 : coreOf s1 = { (coreOf s).cut with state := .ended } := by
    simp only [s1, coreOf_mapMeas, coreOf_cutLoads]
    simp [coreOf, Core.cut, Run.ended]
  have hgated : Gated (coreOf s1) (coreOf s3) := by
    simp only [s3, coreOf_saveAccount]
    exact ((gated_of_eq (coreOf_withdrawWhere s1 _)).trans (waterRunEnd_gated _)).trans (noteGate_gated _ _)
  have hs3 : coreOf s3 = { (coreOf s).cut with state := .ended } :=
    (hgated.eq_of_not_steaming (by rw [hs1]; exact nofun)).trans hs1
  have hsteam : s3.demand.steam ≠ .admitted := by
    show (coreOf s3).steam ≠ _
    rw [hs3]
    exact nofun
  have hafter := enterAfterRun_reach (F := F) (drainCalledFor finalDrain s3) hsteam
  rw [hs3] at hafter
  show Reach F _ (coreOf (postAll .runChanged (enterAfterRun (drainCalledFor finalDrain s3) s3)))
  rw [coreOf_postAll]
  exact hafter

theorem runEnd_moves (cause : EndCause) (finalDrain : Bool) (s : State) : Moves F s (runEnd cause finalDrain s) :=
  moves_of_reach (.head .ended (runEnd_reach cause finalDrain s)) (by
    have hwater : ∀ u : State, (waterRunEnd u).prog = u.prog := fun u => by
      unfold waterRunEnd
      cases u.water.op <;> simp only [mapWater_blocks, toIdle_keeps]
      split <;> simp
    simp [runEnd, hwater])

theorem enterKeepWarm_moves (s : State) : Moves F s (enterKeepWarm s) :=
  (moves_of_coreOf_eq (by simp [coreOf]) (by simp)).trans (restart_moves _)

/-! ### The fault hold (R158, R160) -/

theorem faultMode_reach {s : State} (hidle : s.run.state.active = false) (hsteam : s.demand.steam ≠ .admitted) :
    Reach F (coreOf s) (coreOf (faultMode s)) := by
  have henter : Reach F (coreOf s) (coreOf (enterAfterRun false s)) :=
    .head (.afterRun hidle) (enterAfterRun_reach false hsteam)
  unfold faultMode
  cases s.modes.mode
  case afterRun => exact .refl
  all_goals exact henter

/-- A fault taken while the hold is clear: the loads are cut, and a run is ended before the hold stands. -/
theorem enterHold_reach (k : FaultKind) (s : State) : Reach F (coreOf s) (coreOf (enterHold k s)) := by
  let s1 := cutLoads (s.mapFaults fun f => { f with hold := true })
  let s2 := noteGate (gateWithheld s) (stopOperation s1)
  let s3 := s2.mapFaults fun f => { f with capture := some (captureOf k s) }
  have hs1 : coreOf s1 = { (coreOf s).cut with hold := true } := by
    simp only [s1, coreOf_cutLoads]
    simp [coreOf, Core.cut]
  have hs2 : coreOf s2 = coreOf s1 := by
    have hgated := noteGate_gated (stopOperation s1) (gateWithheld s)
    rw [coreOf_stopOperation] at hgated
    exact hgated.eq_of_not_steaming (by rw [hs1]; exact nofun)
  have hs3 : coreOf s3 = { (coreOf s).cut with hold := true, captured := true } := by
    have h : coreOf s3 = { coreOf s2 with captured := true } := by simp [s3, coreOf]
    rw [h, hs2, hs1]
  show Reach F _ (coreOf (postAll .faultEntered (if runActive s then runEnd .fault false s3 else faultMode s3)))
  rw [coreOf_postAll]
  split
  · have hend := runEnd_reach (F := F) .fault false s3
    rw [hs3] at hend
    exact .head .ended (.head (.hold rfl) hend)
  · next hidle =>
    have hstate : s3.run.state = s.run.state := congrArg Core.state hs3
    have hmode := faultMode_reach (F := F) (s := s3) (by rw [hstate]; exact Bool.eq_false_of_not_eq_true hidle)
      (by show (coreOf s3).steam ≠ _; rw [hs3]; exact nofun)
    rw [hs3] at hmode
    exact .head .cut (.head (.hold (Bool.eq_false_of_not_eq_true hidle)) hmode)

theorem takeFault_reach (k : FaultKind) (s : State) : Reach F (coreOf s) (coreOf (takeFault k s)) := by
  unfold takeFault
  split
  · exact .of_eq (by simp [laterFault, coreOf])
  · exact enterHold_reach k s

theorem takeFaults_reach (ks : List FaultKind) (s : State) : Reach F (coreOf s) (coreOf (takeFaults ks s)) := by
  induction ks generalizing s with
  | nil => exact .refl
  | cons k ks ih => exact (takeFault_reach k s).trans (ih _)

/-! ### Step entry and advance (R28, R29) -/

theorem stepEntryActions_moves (extended : Bool) (s : State) : Moves F s (stepEntryActions extended s) := by
  have hraise : ∀ k src timeout a, Moves F s (raisePrompt k src timeout a s) := fun _ _ _ _ =>
    moves_of_coreOf_eq (by simp [coreOf]) (by simp)
  have hfill : ∀ u : State, coreOf u = coreOf s → u.prog = s.prog → Moves F s (requestStepFill u) := fun u hu hp =>
    (moves_of_coreOf_eq hu hp).trans (moves_of_coreOf_eq (by simp [coreOf]) (by simp))
  unfold stepEntryActions
  split
  · split
    · exact hraise _ _ _ _
    · split
      · exact hraise _ _ _ _
      · exact .refl s
    all_goals exact .refl s
  iterate 2
    · split
      · exact hraise _ _ _ _
      · split
        · exact .refl s
        · exact moves_of_gated (requestStepDrain_gated s) (by simp)
      · exact hfill s rfl rfl
      · exact hfill _ rfl rfl
      all_goals exact .refl s
  · exact .refl s

theorem enterStep_moves (i : Nat) (override : Option Nat) (s : State) : Moves F s (enterStep i override s) := by
  unfold enterStep
  refine (Moves.trans (moves_of_coreOf_eq ?_ ?_) (stepEntryActions_moves _ _)).trans (restart_moves _)
  · simp only [coreOf_postAll, coreOf_withdrawWhere]
    rfl
  · simp

theorem advance_moves (s : State) : Moves F s (advance s) := by
  unfold advance
  split
  · split
    · exact enterStep_moves _ _ s
    · split
      · split
        · exact enterKeepWarm_moves s
        · exact runEnd_moves _ _ s
      · exact (moves_of_coreOf_eq (by simp [coreOf]) (by simp)).trans (runEnd_moves _ _ _)
      · exact (moves_of_coreOf_eq (by simp [coreOf]) (by simp)).trans (runEnd_moves _ _ _)
      · exact .refl s
  · exact .refl s

/-! ### Prompt outcomes (R55, R60 to R62) -/

theorem stepOutcome_moves (k : PromptKind) (o : PromptOutcome) (a : TimeoutAction) (s : State) :
    Moves F s (stepOutcome k o a s) := by
  have hrinse : Moves F s (requestSave (setRinseOwed true s)) :=
    moves_of_gated (by simpa using setRinseOwed_gated s true) (by simp)
  unfold stepOutcome
  split
  · split
    · split
      · exact hrinse.trans (advance_moves _)
      · exact advance_moves s
    · split
      · exact runEnd_moves _ _ s
      · exact advance_moves s
    · split
      · exact enterStep_moves _ _ s
      · exact .refl s
    · split
      · exact advance_moves s
      · exact runEnd_moves _ _ s
    · exact .refl s
  · exact .refl s

theorem probeOutcome_moves (o : PromptOutcome) (a : TimeoutAction) (s : State) : Moves F s (probeOutcome o a s) := by
  unfold probeOutcome
  split
  · cases o
    case timeout =>
      cases a
      case goOn => exact .refl s
      case endRun => exact runEnd_moves _ _ s
    all_goals exact .refl s
  · exact .refl s

theorem beginAttempt_moves (s : State) : Moves F s (beginAttempt s) := moves_of_coreOf_eq (by simp [coreOf]) (by simp)

theorem failAttempt_moves (s : State) : Moves F s (failAttempt s) := moves_of_coreOf_eq (by simp [coreOf]) (by simp)

theorem fillNeedTest_moves (s : State) : Moves F s (fillNeedTest s) := moves_of_coreOf_eq (by simp) (by simp)

theorem afterIdle_moves (s : State) : Moves F s (afterIdle s) := moves_of_gated (afterIdle_gated s) (by simp)

theorem refillConfirmed_moves (s : State) : Moves F s (refillConfirmed s) := by
  unfold refillConfirmed
  split
  · split
    · exact beginAttempt_moves s
    · exact .refl s
  · exact .refl s

theorem refillRefused_moves (cause : EndCause) (s : State) : Moves F s (refillRefused cause s) := by
  have hrefused : Moves F s (afterIdle (refuseSteam s)) :=
    (moves_of_gated (refuseSteam_gated s) (by simp)).trans (afterIdle_moves _)
  unfold refillRefused
  split
  · simp only
    split
    · exact hrefused.trans (runEnd_moves _ _ _)
    · exact hrefused
  · exact .refl s

theorem waterOutcome_moves (o : PromptOutcome) (s : State) : Moves F s (waterOutcome o s) := by
  cases o
  case confirm => exact refillConfirmed_moves s
  case decline => exact refillRefused_moves _ s
  case timeout => exact refillRefused_moves _ s
  case extend => exact .refl s
  case withdrawn => exact .refl s

theorem closeAndDeliver_moves (p : Prompt) (o : PromptOutcome) (b : AnsweredBy) (a : TimeoutAction) (s : State) :
    Moves F s (closeAndDeliver p o b a s) := by
  have hclose : Moves F s (closePrompt p o b s) := moves_of_coreOf_eq (by simp [coreOf]) (by simp)
  unfold closeAndDeliver
  simp only
  split
  · exact hclose.trans (stepOutcome_moves _ _ _ _)
  · exact hclose.trans (probeOutcome_moves _ _ _)
  · exact hclose.trans (waterOutcome_moves _ _)

theorem sensorClosure_moves (k : PromptKind) (s : State) : Moves F s (sensorClosure k s) := by
  unfold sensorClosure
  split
  · exact closeAndDeliver_moves _ _ _ _ s
  · exact .refl s

/-! ### Water steps (R144 to R147) -/

theorem stepFillDone_moves (s : State) : Moves F s (stepFillDone s) := by
  unfold stepFillDone
  split
  · split
    · exact advance_moves s
    all_goals exact .refl s
  · exact .refl s

theorem stepDrainDone_moves (s : State) : Moves F s (stepDrainDone s) := by
  unfold stepDrainDone
  split
  · split
    · exact advance_moves s
    · split
      · exact advance_moves s
      · exact .refl s
    all_goals exact .refl s
  · exact .refl s

end

section
variable {F : Prop}

/-! ### The run held, resumed and started (R26, R36 to R39, R143, R169) -/

theorem coreOf_enterHeld (st : RunState) (s : State) : coreOf (enterHeld st s) = { (coreOf s).cut with state := st } := by
  rw [enterHeld, coreOf_postAll, coreOf_mapMeas]
  simp [coreOf, Core.cut, holdOutputs, cutLoads, Demand.idle]

/-- The loads are cut before the run is held. -/
theorem held_reach (st : RunState) {c : Core} (hactive : c.state.active = true) (hst : st.active = true)
    (hheld : st ≠ .running) : Reach F c { c.cut with state := st } :=
  .head .cut (.single (.run (c := c.cut) st hactive hst (fun _ => ⟨rfl, nofun⟩) fun h => absurd h hheld))

theorem enterHeld_moves (st : RunState) {s : State} (hactive : s.run.state.active = true) (hst : st.active = true)
    (hheld : st ≠ .running) : Moves F s (enterHeld st s) := by
  refine moves_of_reach ?_ (by simp [enterHeld])
  rw [coreOf_enterHeld]
  exact held_reach st hactive hst hheld

/-- The run returns to RUNNING from an active state in which its loads are cut already. -/
theorem returnToRunning_moves {s : State} (hactive : s.run.state.active = true) (hheld : s.run.state ≠ .running)
    (hdoor : s.pins.doorOpen = false) : Moves F s (returnToRunning s) := by
  refine Moves.trans (moves_of_move ?_ (by simp)) (restart_moves _)
  rw [coreOf_postAll]
  exact .run .running hactive rfl (fun h => absurd h hheld) fun _ => hdoor

theorem sameFrame_clearBases (u : Sched) : SameFrame u u.clearBases :=
  ⟨rfl, rfl, rfl, fun l => by simp [Sched.clearBases]⟩

/-- The state of a taken start before its step 0 is entered. -/
def runBegun (k : RunKind) (p : Port) (drains : State → State) (drainOnEnd : Bool) (s : State) : State :=
  enterActive drainOnEnd (drains (postAll .runChanged
    (((s.mapRun fun r => r.started k p s.modes.fresh).mapSched Sched.clearBases).mapWater fun w =>
      { w with declineMark := false })))

theorem coreOf_runBegun (k : RunKind) (p : Port) {drains : State → State} (mark : Bool) (s : State)
    (hdrains : ∀ u, coreOf (drains u) = coreOf u) :
    coreOf (runBegun k p drains mark s) =
      { coreOf s with
        sched := s.sched.clearBases
        state := if s.modes.fresh then .running else .preparing
        kind := k
        mode := .active
        idleSet := false
        coolingSet := false } := by
  have henter : ∀ u, coreOf (enterActive mark u) = { coreOf u with mode := .active, idleSet := false, coolingSet := false } :=
    fun u => by
      unfold enterActive
      simp only
      split <;> simp [coreOf]
  rw [runBegun, henter, hdrains, coreOf_postAll]
  simp [coreOf, Run.started]

theorem beginRun_moves (k : RunKind) (p : Port) {drains : State → State} (mark : Bool) {s : State}
    (hdrains : ∀ u, coreOf (drains u) = coreOf u) (hprog : ∀ u, (drains u).prog = u.prog)
    (hidle : s.run.state.active = false) (hhold : s.faults.hold = false) (hdoor : s.pins.doorOpen = false) :
    Moves F s (beginRun k p drains mark s) := by
  have hbegun : Moves F s (runBegun k p drains mark s) := by
    refine moves_of_reach (.head (.refigure _ (sameFrame_clearBases s.sched)) (.single ?_)) (by simp [runBegun, hprog])
    rw [coreOf_runBegun k p mark s hdrains]
    exact .start (c := { coreOf s with sched := s.sched.clearBases }) k (if s.modes.fresh then .running else .preparing)
      hidle hhold hdoor (by split <;> rfl)
  have hgate : ∀ before u, Moves F u (noteGate before u) := fun before u => moves_of_gated (noteGate_gated u before) (by simp)
  show Moves F s (noteGate (gateWithheld s)
    (if s.modes.fresh then enterStep 0 none (runBegun k p drains mark s) else runBegun k p drains mark s))
  split
  · exact (hbegun.trans (enterStep_moves _ _ _)).trans (hgate _ _)
  · exact hbegun.trans (hgate _ _)

theorem coreOf_cookDrains (s : State) : coreOf (cookDrains s) = coreOf s := by
  unfold cookDrains dropDrain
  split
  · rfl
  · simp only
    split <;> simp

theorem coreOf_replaceOptions (o : Options) (s : State) : coreOf (replaceOptions o s) = coreOf s := by
  unfold replaceOptions
  simp only
  split <;> simp [coreOf]

/-! ### Owners that move nothing read here -/

/-- The owner of a command leaves the fields read here as it finds them. -/
def LeavesCore (owner : State → Reply) : Prop := ∀ u, coreOf (owner u).state = coreOf u

theorem report_leavesCore (payload : State → List Byte) : LeavesCore (report payload) := fun _ => rfl

theorem getStepReply_leavesCore (index : Byte) : LeavesCore (getStepReply index) := by
  intro u; unfold getStepReply; split <;> rfl

theorem noticesReply_leavesCore (p : Port) : LeavesCore (noticesReply p) := fun _ => rfl

theorem recipeReadReply_leavesCore (slot part : Byte) : LeavesCore (recipeReadReply slot part) := by
  intro u; unfold recipeReadReply; simp only; repeat' split
  all_goals rfl

theorem putStepReply_leavesCore (index : Byte) (w : StepWire) : LeavesCore (putStepReply index w) := by
  intro u; unfold putStepReply; simp only; repeat' split
  all_goals rfl

theorem clearReply_leavesCore : LeavesCore clearReply := by
  intro u; unfold clearReply; split <;> rfl

theorem loadReply_leavesCore (slot : Byte) : LeavesCore (loadReply slot) := by
  intro u; unfold loadReply; simp only; repeat' split
  all_goals rfl

theorem storeReply_leavesCore (p : Port) (slot category : Byte) (name : List Byte) :
    LeavesCore (storeReply p slot category name) := by
  intro u; unfold storeReply; simp only; repeat' split
  all_goals rfl

theorem eraseReply_leavesCore (p : Port) (slot : Byte) : LeavesCore (eraseReply p slot) := by
  intro u; unfold eraseReply; simp only; repeat' split
  all_goals rfl

theorem optionsReply_leavesCore (f : Bool → Bool → Bool) (options : Byte) : LeavesCore (optionsReply f options) := by
  intro u; unfold optionsReply; repeat' split
  all_goals rfl

theorem consentArmReply_leavesCore : LeavesCore consentArmReply := by
  intro u; unfold consentArmReply; split <;> rfl

theorem consentDropReply_leavesCore : LeavesCore consentDropReply := fun _ => rfl

theorem setHardnessReply_leavesCore (h : Half) : LeavesCore (setHardnessReply h) := by
  intro u; unfold setHardnessReply; split <;> simp

theorem setFillRetriesReply_leavesCore (n : Byte) : LeavesCore (setFillRetriesReply n) := by
  intro u; unfold setFillRetriesReply; split <;> simp

theorem setCalReply_leavesCore (channel offset : Byte) : LeavesCore (setCalReply channel offset) := by
  intro u; unfold setCalReply; repeat' split
  all_goals simp

/-! ### Owners that move the scheduler, the gate, the hold or the mode -/

/-- What the owner of a command does to the fields read here is a run of moves. -/
def OwnerReaches (F : Prop) (owner : State → Reply) : Prop :=
  ∀ u, (F → LevelsFit u.prog.steps) → Reach F (coreOf u) (coreOf (owner u).state)

theorem LeavesCore.reaches {owner : State → Reply} (h : LeavesCore owner) : OwnerReaches F owner :=
  fun u _ => .of_eq (h u)

theorem OwnerReaches.of_moves {owner : State → Reply} (h : ∀ u, Moves F u (owner u).state) : OwnerReaches F owner :=
  fun u hfit => (h u hfit).2

theorem refigured_reach {s : State} {f : Sched → Sched} (h : SameFrame s.sched (f s.sched)) :
    Reach F (coreOf s) (coreOf (requestSave (s.mapSched f))) := by
  rw [coreOf_requestSave]
  exact .single (.refigure _ h)

theorem setBudgetReply_reaches (mode : Byte) (floor : Half) (manual : Option Half) :
    OwnerReaches F (setBudgetReply mode floor manual) := by
  intro u _
  unfold setBudgetReply
  split
  · exact .refl
  · split
    · exact refigured_reach ⟨rfl, rfl, rfl, fun _ => ⟨rfl, rfl, rfl, rfl⟩⟩
    · exact .refl

theorem setSupplyReply_reaches (limit : Half) (volts scan : Byte) : OwnerReaches F (setSupplyReply limit volts scan) := by
  intro u _
  unfold setSupplyReply
  split
  · exact .refl
  · split
    · exact refigured_reach ⟨rfl, rfl, rfl, fun _ => ⟨rfl, rfl, rfl, rfl⟩⟩
    · exact .refl

/-- The scheduler with the configured fields of one entry stored (R118). -/
def fieldsStored (l : Load) (ratedW : Nat) (enabled : Bool) (rampStep : Nat) (u : Sched) : Sched :=
  { u with entries := u.entries.modify l fun e => { e with ratedW := ratedW, enabled := enabled, rampStep := rampStep } }

theorem sameFrame_fieldsStored (l : Load) (ratedW : Nat) (enabled : Bool) (rampStep : Nat) (u : Sched) :
    SameFrame u (fieldsStored l ratedW enabled rampStep u) := by
  refine ⟨rfl, rfl, rfl, fun m => ?_⟩
  simp only [fieldsStored, PerLoad.get_modify]
  split <;> exact ⟨rfl, rfl, rfl, rfl⟩

theorem elementConfigReply_reaches (entry : Byte) (ratedW : Half) (enabled rampStep : Byte) :
    OwnerReaches F (elementConfigReply entry ratedW enabled rampStep) := by
  intro u _
  unfold elementConfigReply
  split
  · next l e _ _ =>
    split
    · exact .refl
    · have hstored : Reach F (coreOf u) { coreOf u with sched := fieldsStored l ratedW.toNat e rampStep.toNat u.sched } :=
        .single (.refigure _ (sameFrame_fieldsStored ..))
      rw [done_state, coreOf_requestSave]
      cases e
      · exact hstored.tail (.switchOff l)
      · exact hstored
  · exact .refl

theorem scaleSetReply_reaches (mg : Half) : OwnerReaches F (scaleSetReply mg) := by
  intro u _
  unfold scaleSetReply
  rw [done_state, coreOf_saveAccount]
  exact (noteScale_gated (u.mapWater fun w => { w with account := mg.toNat, remainder := 0 }) _).reach

theorem setScaleLimitReply_reaches (mg : Half) : OwnerReaches F (setScaleLimitReply mg) := by
  intro u _
  unfold setScaleLimitReply
  split
  · exact .refl
  · rw [done_state, coreOf_requestSave]
    exact (noteScale_gated (u.mapWater fun w => { w with scaleLimit := mg.toNat }) _).reach

theorem clearFaultReply_reaches : OwnerReaches F clearFaultReply := by
  intro u _
  unfold clearFaultReply
  split
  · exact .refl
  · split
    · exact .refl
    · exact .head .release (beginWaiting_gated (postAll .faultEntered
        (u.mapFaults fun _ => { hold := false, capture := none, later := 0, lastLater := none, tripped := armedAll }))).reach

theorem enterStandby_reach {s : State} (h : s.modes.mode = .ready) : Reach F (coreOf s) (coreOf (enterStandby s)) := by
  have hcore : coreOf (enterStandby s) = { coreOf s with mode := .standby, idleSet := false } := by
    rw [enterStandby, coreOf_postAll]
    simp [coreOf]
  rw [hcore]
  exact .single (.sleep h)

theorem standbyReply_reaches : OwnerReaches F standbyReply := by
  intro u _
  unfold standbyReply
  split
  · next h => exact enterStandby_reach h
  all_goals exact .refl

/-! ### Owners that move the run -/

theorem startReply_reaches (p : Port) (options : Byte) : OwnerReaches F (startReply p options) := .of_moves fun u => by
  unfold startReply
  split
  · exact .refl u
  · next o _ =>
    split
    · exact .refl u
    · next hhold =>
      split
      · exact .refl u
      · next hidle =>
        split
        · exact .refl u
        · split
          · exact .refl u
          · next hdoor =>
            iterate 2
              split
              · exact .refl u
            have hoptions := coreOf_replaceOptions o u
            have hstate : (replaceOptions o u).run.state = u.run.state := congrArg Core.state hoptions
            have hfaults : (replaceOptions o u).faults.hold = u.faults.hold := congrArg Core.hold hoptions
            have hpins : (replaceOptions o u).pins.doorOpen = u.pins.doorOpen := congrArg Core.doorOpen hoptions
            refine (moves_of_coreOf_eq hoptions (replaceOptions_keeps o u).2).trans
              (beginRun_moves _ _ _ coreOf_cookDrains (fun v => (cookDrains_keeps v).2) ?_ ?_ ?_)
            · rw [hstate]; exact Bool.eq_false_of_not_eq_true hidle
            · rw [hfaults]; exact Bool.eq_false_of_not_eq_true hhold
            · rw [hpins]; exact Bool.eq_false_of_not_eq_true hdoor

theorem builtinStartReply_reaches (k : RunKind) (p : Port) (due : State → Bool) :
    OwnerReaches F fun u => builtinStartReply k p (due u) u := .of_moves fun u => by
  simp only [builtinStartReply]
  split
  · exact .refl u
  · next hhold =>
    split
    · exact .refl u
    · next hidle =>
      split
      · exact .refl u
      · next hdoor =>
        split
        · exact .refl u
        · exact beginRun_moves _ _ _ (fun _ => rfl) (fun _ => rfl) (Bool.eq_false_of_not_eq_true hidle)
            (Bool.eq_false_of_not_eq_true hhold) (Bool.eq_false_of_not_eq_true hdoor)

theorem pauseReply_reaches : OwnerReaches F pauseReply := .of_moves fun u => by
  unfold pauseReply
  split
  · next h => exact enterHeld_moves _ (by rw [h]; rfl) rfl nofun
  · next h => exact enterHeld_moves _ (by rw [h]; rfl) rfl nofun
  all_goals exact .refl u

theorem resumeReply_reaches (p : Port) : OwnerReaches F (resumeReply p) := .of_moves fun u => by
  unfold resumeReply
  split
  · exact .refl u
  · next hpaused =>
    have hstate : u.run.state = .paused := not_not.1 hpaused
    split
    · exact .refl u
    · next hdoor =>
      split
      · exact .refl u
      · exact returnToRunning_moves (by rw [hstate]; rfl) (by rw [hstate]; exact nofun) (Bool.eq_false_of_not_eq_true hdoor)

theorem stopReply_reaches : OwnerReaches F stopReply := .of_moves fun u => by
  unfold stopReply
  split
  · exact runEnd_moves _ _ u
  · exact .refl u

theorem adjustTaken_moves (i : Nat) (f : AdjustField) (value : Half) {x : Step} {s : State}
    (hx : s.prog.steps[i]? = some x) : Moves F s (adjustTaken i f value x s) := by
  have hedit : Moves F s (s.mapProg fun g => { steps := g.steps.set i (adjustStep f value x), origin := .edited }) :=
    fun hfit => by
      refine ⟨fun hF y hy => ?_, .refl⟩
      obtain hy | rfl := List.mem_or_eq_of_mem_set hy
      · exact hfit hF y hy
      · exact adjustStep_fits f value (hfit hF x (List.mem_of_getElem? hx))
  unfold adjustTaken
  simp only
  split
  · refine hedit.trans (Moves.trans (moves_of_coreOf_eq ?_ ?_) (restart_moves _))
    · split <;> rfl
    · split <;> rfl
  · exact hedit

theorem adjustReply_reaches (index field : Byte) (value : Half) : OwnerReaches F (adjustReply index field value) :=
  .of_moves fun u => by
    unfold adjustReply
    simp only
    iterate 2
      split
      · exact .refl u
    split
    · exact .refl u
    · next hx =>
      iterate 4
        split
        · exact .refl u
      exact adjustTaken_moves _ _ _ hx

theorem skipReply_reaches (index : Byte) : OwnerReaches F (skipReply index) := .of_moves fun u => by
  unfold skipReply
  iterate 2
    split
    · exact .refl u
  exact advance_moves u

theorem answerReply_reaches (p : Port) (id ans : Byte) : OwnerReaches F (answerReply p id ans) := .of_moves fun u => by
  unfold answerReply
  iterate 5
    split
    · exact .refl u
  exact closeAndDeliver_moves _ _ _ _ u

/-! ### Commands (R185, R191) -/

theorem heard_reach (s : State) : Reach F (coreOf s) (coreOf (heard s)) := by
  have hready : s.modes.mode = .standby ∨ s.modes.mode = .ready →
      Reach F (coreOf s) { coreOf s with mode := .ready, idleSet := true } := fun h => .single (.wake h)
  unfold heard
  split
  · next h =>
    refine (hready (.inl h)).trans (Reach.of_eq ?_)
    rw [coreOf_postAll]
    simp [coreOf, wakeRounds]
  · next h =>
    refine (hready (.inr h)).trans (Reach.of_eq ?_)
    simp [coreOf, h]
  · exact .refl
  · exact .refl

theorem heardBy_reach (p : Port) (s : State) : Reach F (coreOf s) (coreOf (heard (takeFrame p s))) :=
  heard_reach (takeFrame p s)

theorem command_reach (p : Port) (echo : Byte) (a : Access) {owner : State → Reply} {s : State} (ho : OwnerReaches F owner)
    (hfit : F → LevelsFit s.prog.steps) : Reach F (coreOf s) (coreOf (command p echo a owner s)) := by
  have hheard := heardBy_reach (F := F) p s
  unfold command
  simp only
  split
  · exact hheard.trans (ho _ (by simpa using hfit))
  · exact hheard

theorem quietCommand_reach (p : Port) (echo : Byte) (a : Access) {owner : State → Reply} {s : State}
    (ho : OwnerReaches F owner) (hfit : F → LevelsFit s.prog.steps) :
    Reach F (coreOf s) (coreOf (quietCommand p echo a owner s)) := by
  unfold quietCommand
  simp only
  split
  · exact ho (takeFrame p s) hfit
  · exact .refl

theorem noFrame_cleared (u : Sched) : NoFrame u.cleared :=
  ⟨rfl, rfl, rfl, fun l => by simp [Sched.cleared]⟩

theorem commandReset_reach (s : State) : Reach F (coreOf s) (coreOf (commandReset s)) :=
  .single (.reset rfl (.inl rfl) (by simp [coreOf, commandReset]) rfl rfl (noFrame_cleared _) (.inr ⟨rfl, rfl⟩))

theorem fullReset_reach (cause : ResetCause) (pins : Pins) (s : State) :
    Reach F (coreOf s) (coreOf (fullReset cause pins s)) := by
  have hrestore : ∀ r s1, s1.run.state = .idle → s1.faults = State.reset.faults → s1.demand = State.reset.demand →
      s1.modes = { State.reset.modes with resetCause := cause } → Reach F (coreOf s) (coreOf (restoreRecord r s1)) :=
    fun r s1 hrun hfaults hdemand hmodes => .single
      (.reset (by simpa [coreOf, restoreRecord] using hrun) (.inr (by simp [coreOf, restoreRecord, hmodes, State.reset]))
        (by simp [coreOf, restoreRecord, hmodes, State.reset]) (by simp [coreOf, restoreRecord, hmodes, State.reset])
        (by simp [coreOf, restoreRecord, hdemand, State.reset]) (noFrame_cleared _)
        (.inl (by simp [coreOf, restoreRecord, hfaults, State.reset])))
  unfold fullReset
  simp only
  split
  · exact hrestore _ _ rfl rfl rfl rfl
  · rw [coreOf_requestSave, coreOf_postAll]
    exact hrestore _ _ rfl rfl rfl rfl

end

section
variable {F : Prop}

/-! ### Events of the ports and the inputs -/

theorem formCheckTaken_reach (p : Port) (bytes : List Byte) (s : State) :
    Reach F (coreOf s) (coreOf (formCheckTaken p bytes s)) := by
  unfold formCheckTaken
  split
  · exact .refl
  · exact .refl

theorem doorHeard_reach (s : State) : Reach F (coreOf s) (coreOf (doorHeard s)) := by
  rw [doorHeard, coreOf_coolingFan]
  exact heard_reach s

/-- The door opens on a run that has left RUNNING, or leaves it by this (R36). -/
theorem doorOpened_reach (s : State) : Reach F (coreOf s) (coreOf (doorOpened s)) := by
  unfold doorOpened
  refine Relation.ReflTransGen.trans ?_ (doorHeard_reach _)
  split
  · next hrun =>
    have hheld : Reach F (coreOf s) { (coreOf s).cut with state := .doorHeld } :=
      held_reach .doorHeld (by rw [show (coreOf s).state = .running from hrun]; rfl) rfl nofun
    rw [coreOf_enterHeld]
    exact hheld.tail (.door true nofun)
  · next hrun => exact .single (.door true fun _ => hrun)

theorem doorClosed_reach {s : State} (hfit : F → LevelsFit s.prog.steps) : Reach F (coreOf s) (coreOf (doorClosed s)) := by
  let s1 := s.mapPins fun x => { x with doorOpen := false }
  have hclosed : Reach F (coreOf s) (coreOf s1) := .single (.door false nofun)
  unfold doorClosed
  refine Relation.ReflTransGen.trans ?_ (doorHeard_reach _)
  split
  · next hheld =>
    refine hclosed.trans ((returnToRunning_moves (s := s1) ?_ ?_ rfl hfit).2)
    · rw [show s1.run.state = .doorHeld from hheld]; rfl
    · rw [show s1.run.state = .doorHeld from hheld]; exact nofun
  · exact hclosed

theorem tankBecomesOk_moves (s : State) : Moves F s (tankBecomesOk s) := by
  unfold tankBecomesOk
  split
  · exact sensorClosure_moves _ s
  · split
    · exact beginAttempt_moves s
    · exact .refl s

theorem tankBecomesNotOk_moves (s : State) : Moves F s (tankBecomesNotOk s) := by
  unfold tankBecomesNotOk
  split
  · exact moves_of_coreOf_eq (by simp [coreOf]) (by simp)
  · exact .refl s

theorem tankChanged_moves (present : Bool) (level : TankLevel) (s : State) : Moves F s (tankChanged present level s) := by
  have hpost : Moves F s (postAll .waterChanged (s.mapPins fun x => { x with tankPresent := present, tankLevel := level })) :=
    moves_of_coreOf_eq rfl rfl
  unfold tankChanged
  simp only
  split
  · exact moves_of_coreOf_eq rfl rfl
  · split
    · exact hpost.trans (tankBecomesOk_moves _)
    · exact hpost.trans (tankBecomesNotOk_moves _)

theorem switchOff_off (u : Sched) (l : Load) : ((u.switchOff l).entries.get l).on = false := by
  unfold Sched.switchOff
  simp only
  split
  · simp only [PerLoad.get_modify, if_pos, Entry.giveBack]
    split <;> rfl
  · next h => exact Bool.eq_false_of_not_eq_true h

/-- The level becomes DRY with the BOILER entry switched off for it (R110). -/
theorem boilerLevelChanged_reach (level : BoilerLevel) (s : State) :
    Reach F (coreOf s) (coreOf (boilerLevelChanged level s)) := by
  unfold boilerLevelChanged
  simp only
  split
  · next hdry =>
    subst hdry
    have hcut : coreOf (boilerBecomesDry (postAll .waterChanged (s.mapPins fun x => { x with boilerLevel := .dry }))) =
        { coreOf s with sched := s.sched.switchOff .boiler, level := .dry } := by
      unfold boilerBecomesDry
      simp only
      split <;> simp [coreOf]
    rw [hcut]
    exact .head (.switchOff .boiler) (.single (.level (c := { coreOf s with sched := s.sched.switchOff .boiler }) .dry
      fun h => absurd h (by simp [switchOff_off])))
  · next hdry =>
    have hwet : level = .wet := by cases level <;> simp_all
    have hlevel : coreOf (boilerBecomesWet (postAll .waterChanged (s.mapPins fun x => { x with boilerLevel := level }))) =
        { coreOf s with level := level } := by
      unfold boilerBecomesWet
      split
      · simp [coreOf]
      · split <;> simp [coreOf]
    rw [hlevel]
    exact .single (.level level fun _ => hwet)

/-! ### Events of the water unit -/

theorem volumeReached_moves (s : State) : Moves F s (volumeReached s) :=
  failAttempt_moves (s.mapWater fun w => { w with flow := Config.fillPulseLimit })

theorem fillVerified_moves (s : State) : Moves F s (fillVerified s) := by
  have hconclude : Moves F s (concludeFill s) := moves_of_gated (concludeFill_gated s) (by simp)
  unfold fillVerified
  simp only
  refine Moves.trans ?_ (afterIdle_moves _)
  split
  · exact hconclude.trans (stepFillDone_moves _)
  · exact hconclude

theorem leaveAfterRun_moves (s : State) : Moves F s (leaveAfterRun s) := moves_of_reach (leaveAfterRun_reach s) (by simp)

theorem drainSucceeded_moves (s : State) : Moves F s (drainSucceeded s) := by
  have hidle : Moves F s (noteGate (gateWithheld s) (toIdle s)) :=
    moves_of_gated ((gated_of_eq (coreOf_toIdle s)).trans (noteGate_gated _ _)) (by simp)
  unfold drainSucceeded
  refine Moves.trans ?_ (afterIdle_moves _)
  split
  · exact hidle.trans ((moves_of_coreOf_eq (coreOf_mapWater _ _) rfl).trans (leaveAfterRun_moves _))
  · exact hidle.trans (stepDrainDone_moves _)
  · exact hidle
  · exact hidle

theorem drainNotDone_moves (s : State) : Moves F s (drainNotDone s) := by
  refine Moves.trans (moves_of_gated ?_ ?_) (fillNeedTest_moves _)
  · exact (gated_of_eq (by simp)).trans (noteGate_gated _ _)
  · simp

theorem drainPassEnded_moves (s : State) : Moves F s (drainPassEnded s) := by
  unfold drainPassEnded
  split
  · split
    · exact drainSucceeded_moves s
    · split
      · exact drainNotDone_moves s
      · exact moves_of_coreOf_eq (coreOf_mapWater _ _) rfl
  all_goals exact .refl s

/-! ### Events of the run, the prompts and the rounds -/

theorem preheatLimitReached_moves (s : State) : Moves F s (preheatLimitReached s) := by
  unfold preheatLimitReached
  split
  · split
    · exact (moves_of_coreOf_eq rfl rfl).trans (advance_moves (s.mapRun fun r => { r with preheatMark := true }))
    · exact .refl s
  all_goals exact .refl s

theorem cookDurationReached_moves (s : State) : Moves F s (cookDurationReached s) := by
  unfold cookDurationReached
  split
  · split
    · exact advance_moves s
    · exact .refl s
  all_goals exact .refl s

theorem restReached_moves (s : State) : Moves F s (restReached s) := by
  unfold restReached
  split
  · split
    · exact advance_moves s
    · exact .refl s
  all_goals exact .refl s

theorem promptExpires_moves (id : Nat) (s : State) : Moves F s (promptExpires id s) := by
  unfold promptExpires
  split
  · split
    · exact closeAndDeliver_moves _ _ _ _ s
    · exact .refl s
  · exact .refl s

theorem roundCompleted_reach (k : RoundCounts) (s : State) : Reach F (coreOf s) (coreOf (roundCompleted k s)) := by
  unfold roundCompleted publishRound
  split
  · simp only
    split <;> exact .refl
  · exact .refl

/-- PREPARING is left for RUNNING with the door closed, and for DOOR_HELD with it open (R27). -/
theorem leavePreparing_moves {s : State} (h : s.run.state = .preparing) : Moves F s (leavePreparing s) := by
  refine Moves.trans (moves_of_move ?_ (by simp)) (enterStep_moves _ _ _)
  have hcore : coreOf (postAll .runChanged (s.mapRun fun r =>
      if s.pins.doorOpen then { r with state := .doorHeld, held := some 0 } else { r with state := .running })) =
      { coreOf s with state := if s.pins.doorOpen then .doorHeld else .running } := by
    rw [coreOf_postAll]
    split <;> simp [coreOf]
  rw [hcore]
  refine .run _ (by rw [show (coreOf s).state = .preparing from h]; rfl) (by split <;> rfl) (fun hrun => ?_) fun hrun => ?_
  · cases h.symm.trans hrun
  · split at hrun
    · cases hrun
    · next hdoor => exact Bool.eq_false_of_not_eq_true hdoor

theorem judgeRound_moves (s : State) : Moves F s (judgeRound s) := by
  unfold judgeRound
  split
  · next h =>
    split
    · exact leavePreparing_moves h
    · exact .refl s
  · split
    · exact advance_moves s
    · exact .refl s

theorem testRound_reach (s : State) : Reach F (coreOf s) (coreOf (testRound s)) :=
  takeFaults_reach _ (s.mapFaults fun f => { f with tripped := allTrippedAfter s })

theorem modeRound_reach (s : State) : Reach F (coreOf s) (coreOf (modeRound s)) := by
  refine (Reach.of_eq ?_).trans (leaveAfterRun_reach _)
  rw [coreOf_coolingFan]
  simp only [coreOf, mapModes_blocks, ModeCtl.afterRound]
  congr 1
  split
  · next h => simp [h.2.1]
  · rfl

/-! ### The scheduler's round, slots and writes -/

theorem sameFrame_shedCounted (u : Sched) (l : Load) :
    SameFrame u { u with entries := u.entries.modify l fun e => { e with sheds := e.sheds + 1 } } := by
  refine ⟨rfl, rfl, rfl, fun m => ?_⟩
  simp only [PerLoad.get_modify]
  split <;> exact ⟨rfl, rfl, rfl, rfl⟩

theorem shedOne_reach (c : Core) (l : Load) : Reach F c { c with sched := c.sched.shedOne l } := by
  have hoff : Reach F c { c with sched := c.sched.switchOff l } := .single (.switchOff l)
  unfold Sched.shedOne
  simp only
  split
  · exact hoff.tail (.refigure (c := { c with sched := c.sched.switchOff l }) _ (sameFrame_shedCounted _ l))
  · exact hoff

theorem shedList_reach (ls : List Load) (excess : Nat) (c : Core) :
    Reach F c { c with sched := Sched.shedList ls excess c.sched } := by
  induction ls generalizing excess c with
  | nil => exact .refl
  | cons l ls ih =>
    unfold Sched.shedList
    split
    · exact .refl
    · split
      · exact (shedOne_reach c l).trans (ih _ { c with sched := c.sched.shedOne l })
      · exact ih _ c

theorem takeBudget_reach (s : State) : Reach F (coreOf s) (coreOf (takeBudget s)) := by
  have hfigures : SameFrame s.sched (s.sched.recompute s.meas.supplyW s.meas.latest.budget) :=
    ⟨rfl, rfl, rfl, fun _ => ⟨rfl, rfl, rfl, rfl⟩⟩
  unfold takeBudget
  split
  · exact .head (.refigure _ hfigures) (shedList_reach _ _ { coreOf s with sched := _ })
  · exact .refl

theorem measuredBudget_moves (s : State) : Moves F s (measuredBudget s) := by
  unfold measuredBudget
  split
  · exact .refl s
  · refine moves_of_reach (takeBudget_reach s) ?_
    unfold takeBudget
    split <;> rfl

theorem startSlotNumber_move {n : Nat} {s : State} (hframe : s.sched.frameRunning = true) (hn : n = s.sched.slot ∨ n ≤ 39) :
    Move F (coreOf s) (coreOf (startSlotNumber n s)) := .slot n hframe hn

theorem completeFrame_moves {s : State} (hrun : s.run.state = .running) : Moves F s (completeFrame s) := by
  have hrecord : SameFrame s.sched s.sched.recordShortfall := ⟨rfl, rfl, rfl, fun l => by simp [Sched.recordShortfall]⟩
  have hmove : Moves F s (s.mapSched Sched.recordShortfall) := moves_of_move (.refigure _ hrecord) rfl
  exact hmove.trans (frameStart_moves hrun)

theorem slotDue_reach {s : State} (h : frameLive s = true) (hfit : F → LevelsFit s.prog.steps) :
    Reach F (coreOf s) (coreOf (slotDue s)) := by
  obtain ⟨hframe, hrun⟩ := (frameLive_iff s).1 h
  unfold slotDue
  split
  · exact .single (startSlotNumber_move hframe (.inl rfl))
  · split
    · exact .single (startSlotNumber_move hframe (.inr (by omega)))
    · refine ((completeFrame_moves hrun) hfit).2.tail (startSlotNumber_move ?_ (.inr (by omega)))
      rw [completeFrame, frameStart_sched]
      rfl

theorem coreOf_endFlight (s : State) : coreOf (endFlight s) = coreOf s := by
  unfold endFlight
  split <;> rfl

theorem coreOf_recipeWritten (pass : Bool) (s : State) : coreOf (recipeWritten pass s) = coreOf s := by
  unfold recipeWritten completeRecipe
  split
  · rw [coreOf_endFlight]; rfl
  · rw [coreOf_endFlight]; rfl
  · rfl
  · rfl

theorem coreOf_saveWritten (pass : Bool) (s : State) : coreOf (saveWritten pass s) = coreOf s := by
  unfold saveWritten completeSave
  split
  · simp only
    split
    · rfl
    · rw [coreOf_endFlight]; rfl
  all_goals rfl

/-! ### Every command and event -/

/-- An event acts where its occasion stands, and otherwise leaves the state (log entry 5). -/
theorem ite_reach {p : Prop} [Decidable p] {s t : State} (h : p → Reach F (coreOf s) (coreOf t)) :
    Reach F (coreOf s) (coreOf (if p then t else s)) := by
  split
  · next hp => exact h hp
  · exact .refl

theorem Moves.reach {s t : State} (h : Moves F s t) (hfit : F → LevelsFit s.prog.steps) : Reach F (coreOf s) (coreOf t) :=
  (h hfit).2

/-- Every command and event answers a next state, and moves the fields read here by moves alone. -/
theorem exec_reach (i : Instr) {s : State} (h : F → LevelsFit s.prog.steps) :
    ∃ t, exec i s = .next t ∧ Reach F (coreOf s) (coreOf t) := by
  cases i with
  | getStatus _ => exact ⟨_, rfl, quietCommand_reach _ _ _ (report_leavesCore _).reaches h⟩
  | getRun _ => exact ⟨_, rfl, quietCommand_reach _ _ _ (report_leavesCore _).reaches h⟩
  | getStep _ _ => exact ⟨_, rfl, quietCommand_reach _ _ _ (getStepReply_leavesCore _).reaches h⟩
  | getSensors _ => exact ⟨_, rfl, quietCommand_reach _ _ _ (report_leavesCore _).reaches h⟩
  | getLoads _ => exact ⟨_, rfl, quietCommand_reach _ _ _ (report_leavesCore _).reaches h⟩
  | getWater _ => exact ⟨_, rfl, quietCommand_reach _ _ _ (report_leavesCore _).reaches h⟩
  | getFault _ => exact ⟨_, rfl, quietCommand_reach _ _ _ (report_leavesCore _).reaches h⟩
  | getPrompts _ => exact ⟨_, rfl, quietCommand_reach _ _ _ (report_leavesCore _).reaches h⟩
  | getNotices _ => exact ⟨_, rfl, quietCommand_reach _ _ _ (noticesReply_leavesCore _).reaches h⟩
  | recipeRead _ _ _ => exact ⟨_, rfl, command_reach _ _ _ (recipeReadReply_leavesCore _ _).reaches h⟩
  | programPutStep _ _ _ => exact ⟨_, rfl, command_reach _ _ _ (putStepReply_leavesCore _ _).reaches h⟩
  | programClear _ => exact ⟨_, rfl, command_reach _ _ _ clearReply_leavesCore.reaches h⟩
  | programLoad _ _ => exact ⟨_, rfl, command_reach _ _ _ (loadReply_leavesCore _).reaches h⟩
  | start _ _ => exact ⟨_, rfl, command_reach _ _ _ (startReply_reaches _ _) h⟩
  | pause _ => exact ⟨_, rfl, command_reach _ _ _ pauseReply_reaches h⟩
  | resume _ => exact ⟨_, rfl, command_reach _ _ _ (resumeReply_reaches _) h⟩
  | stop _ => exact ⟨_, rfl, command_reach _ _ _ stopReply_reaches h⟩
  | adjust _ _ _ _ => exact ⟨_, rfl, command_reach _ _ _ (adjustReply_reaches _ _ _) h⟩
  | skip _ _ => exact ⟨_, rfl, command_reach _ _ _ (skipReply_reaches _) h⟩
  | optSet _ _ => exact ⟨_, rfl, command_reach _ _ _ (optionsReply_leavesCore _ _).reaches h⟩
  | optClear _ _ => exact ⟨_, rfl, command_reach _ _ _ (optionsReply_leavesCore _ _).reaches h⟩
  | optToggle _ _ => exact ⟨_, rfl, command_reach _ _ _ (optionsReply_leavesCore _ _).reaches h⟩
  | answer _ _ _ => exact ⟨_, rfl, command_reach _ _ _ (answerReply_reaches _ _ _) h⟩
  | consentArm _ => exact ⟨_, rfl, command_reach _ _ _ consentArmReply_leavesCore.reaches h⟩
  | consentDrop _ => exact ⟨_, rfl, command_reach _ _ _ consentDropReply_leavesCore.reaches h⟩
  | clearFault _ => exact ⟨_, rfl, command_reach _ _ _ clearFaultReply_reaches h⟩
  | descaleStart _ => exact ⟨_, rfl, command_reach _ _ _ (builtinStartReply_reaches _ _ _) h⟩
  | rinseStart _ => exact ⟨_, rfl, command_reach _ _ _ (builtinStartReply_reaches _ _ fun u => u.water.rinseOwed) h⟩
  | setHardness _ _ => exact ⟨_, rfl, command_reach _ _ _ (setHardnessReply_leavesCore _).reaches h⟩
  | setBudget _ _ _ _ => exact ⟨_, rfl, command_reach _ _ _ (setBudgetReply_reaches _ _ _) h⟩
  | standby _ => exact ⟨_, rfl, quietCommand_reach _ _ _ standbyReply_reaches h⟩
  | reset p =>
    refine ⟨_, rfl, ?_⟩
    split
    · exact (heardBy_reach p s).trans (commandReset_reach _)
    · exact heardBy_reach p s
  | recipeStore _ _ _ _ => exact ⟨_, rfl, command_reach _ _ _ (storeReply_leavesCore _ _ _ _).reaches h⟩
  | recipeErase _ _ => exact ⟨_, rfl, command_reach _ _ _ (eraseReply_leavesCore _ _).reaches h⟩
  | elementConfig _ _ _ _ _ => exact ⟨_, rfl, command_reach _ _ _ (elementConfigReply_reaches _ _ _ _) h⟩
  | setSupply _ _ _ _ => exact ⟨_, rfl, command_reach _ _ _ (setSupplyReply_reaches _ _ _) h⟩
  | setCal _ _ _ => exact ⟨_, rfl, command_reach _ _ _ (setCalReply_leavesCore _ _).reaches h⟩
  | scaleSet _ _ => exact ⟨_, rfl, command_reach _ _ _ (scaleSetReply_reaches _) h⟩
  | setScaleLimit _ _ => exact ⟨_, rfl, command_reach _ _ _ (setScaleLimitReply_reaches _) h⟩
  | setFillRetries _ _ => exact ⟨_, rfl, command_reach _ _ _ (setFillRetriesReply_leavesCore _).reaches h⟩
  | formCheckFailure _ _ => exact ⟨_, rfl, formCheckTaken_reach _ _ _⟩
  | writeDiscard _ => exact ⟨_, rfl, .refl⟩
  | powerOnReset _ => exact ⟨_, rfl, fullReset_reach _ _ _⟩
  | lineReset => exact ⟨_, rfl, fullReset_reach _ _ _⟩
  | doorOpens =>
    refine ⟨_, rfl, ?_⟩
    split
    · exact .refl
    · exact doorOpened_reach s
  | doorCloses => exact ⟨_, rfl, ite_reach fun _ => doorClosed_reach h⟩
  | tankChange _ _ => exact ⟨_, rfl, (tankChanged_moves _ _ s).reach h⟩
  | boilerLevelChange _ =>
    refine ⟨_, rfl, ?_⟩
    split
    · exact .refl
    · exact boilerLevelChanged_reach _ s
  | flowPulse =>
    refine ⟨_, rfl, ite_reach fun _ => ?_⟩
    split
    · exact .refl
    · exact (volumeReached_moves s).reach h
  | fillVolumeLimit => exact ⟨_, rfl, ite_reach fun _ => (volumeReached_moves s).reach h⟩
  | fillTimeLimit => exact ⟨_, rfl, ite_reach fun _ => (failAttempt_moves s).reach h⟩
  | verifyEnd =>
    refine ⟨_, rfl, ite_reach fun _ => ?_⟩
    split
    · exact (fillVerified_moves s).reach h
    · exact (failAttempt_moves s).reach h
  | retryWaitEnd => exact ⟨_, rfl, ite_reach fun _ => (beginAttempt_moves s).reach h⟩
  | tankWaitEnd => exact ⟨_, rfl, ite_reach fun _ => (beginAttempt_moves s).reach h⟩
  | drainPassEnd => exact ⟨_, rfl, (drainPassEnded_moves s).reach h⟩
  | fillFailed =>
    exact ⟨_, rfl, ite_reach fun _ =>
      takeFault_reach .fillFailed (s.mapWater fun w => { w with fillFailedRaises := w.fillFailedRaises - 1 })⟩
  | drainFailed =>
    exact ⟨_, rfl, ite_reach fun _ =>
      takeFault_reach .drainFailed (s.mapWater fun w => { w with drainFailedRaises := w.drainFailedRaises - 1 })⟩
  | runSecondTick => exact ⟨_, rfl, .refl⟩
  | preheatTimeout => exact ⟨_, rfl, (preheatLimitReached_moves s).reach h⟩
  | cookDurationEnd => exact ⟨_, rfl, (cookDurationReached_moves s).reach h⟩
  | restEnd => exact ⟨_, rfl, (restReached_moves s).reach h⟩
  | soakEnd => exact ⟨_, rfl, ite_reach fun _ => (advance_moves s).reach h⟩
  | flushHoldEnd =>
    exact ⟨_, rfl, ite_reach fun _ =>
      (requestStepDrain_gated (s.mapRun fun r => { r with flushPart := some .drain })).reach⟩
  | keepWarmEnd => exact ⟨_, rfl, ite_reach fun _ => (runEnd_moves _ _ s).reach h⟩
  | doorHeldLimit =>
    exact ⟨_, rfl, ite_reach fun hlimit => (enterHeld_moves .paused (by rw [hlimit.1]; rfl) rfl nofun).reach h⟩
  | pauseTimeout => exact ⟨_, rfl, ite_reach fun _ => (runEnd_moves _ _ s).reach h⟩
  | promptCountdown _ => exact ⟨_, rfl, ite_reach fun _ => .refl⟩
  | promptTimeout _ => exact ⟨_, rfl, (promptExpires_moves _ s).reach h⟩
  | roundBegin =>
    refine ⟨_, rfl, ?_⟩
    split <;> exact .refl
  | roundComplete _ => exact ⟨_, rfl, roundCompleted_reach _ s⟩
  | roundRunJudgement =>
    exact ⟨_, rfl, ite_reach fun _ => (judgeRound_moves (s.mapMeas Meas.dropJudgement)).reach h⟩
  | probeSensorClosure =>
    exact ⟨_, rfl, ite_reach fun _ =>
      (sensorClosure_moves _ (s.mapMeas fun m => { m with owed := { m.owed with closure := false } })).reach h⟩
  | faultRoundTest => exact ⟨_, rfl, ite_reach fun _ =>
      testRound_reach (s.mapMeas fun m => { m with owed := { m.owed with fault := false } })⟩
  | budgetRecompute => exact ⟨_, rfl, takeBudget_reach s⟩
  | drainCoolTest => exact ⟨_, rfl, ite_reach fun _ => .of_eq (by simp)⟩
  | modeRoundUpdate =>
    exact ⟨_, rfl, ite_reach fun _ => modeRound_reach (s.mapMeas fun m => { m with owed := { m.owed with mode := false } })⟩
  | idleTimeout => exact ⟨_, rfl, ite_reach fun hidle => enterStandby_reach hidle.1⟩
  | slotStart =>
    refine ⟨_, rfl, ite_reach fun hlive => ?_⟩
    have hmeasured := measuredBudget_moves (F := F) s h
    refine hmeasured.2.trans (slotDue_reach ?_ hmeasured.1)
    obtain ⟨hsame, hframe, -⟩ := slotFinds_keeps s
    rw [slotFinds_eq] at hsame hframe
    have hrun : (measuredBudget s).run = s.run := hsame .run (by decide)
    rwa [frameLive, hframe, hrun]
  | frameComplete => exact ⟨_, rfl, ite_reach fun hlive => (completeFrame_moves ((frameLive_iff s).1 hlive.1).2).reach h⟩
  | storeWriteComplete _ => exact ⟨_, rfl, .of_eq (coreOf_recipeWritten _ s)⟩
  | saveComplete _ => exact ⟨_, rfl, .of_eq (coreOf_saveWritten _ s)⟩
  | idleTimerCountdown => exact ⟨_, rfl, ite_reach fun _ => .of_eq (by simp [coreOf])⟩

/-- A step moves the fields read here by moves alone. -/
theorem step_reach {s t : State} (h : F → LevelsFit s.prog.steps) (hstep : step s = .next t) :
    Reach F (coreOf s) (coreOf t) := by
  unfold step at hstep
  split at hstep
  · cases hstep
    exact .refl
  · next i rest _ =>
    obtain ⟨u, hexec, hu⟩ := exec_reach (F := F) i (s := { s with pending := rest }) h
    rw [hexec] at hstep
    cases hstep
    exact hu

end

end Sys2Proof.Machine.SafeMoves
end

section
/-! PROOF. What every move keeps (O54, O55): one entry through the scheduler's operations, the hold, the loads and the mode, then the
frame's figures and steam. -/

namespace Sys2Proof.Machine.SafeLoads

open Sys2Proof Sys2Proof.Machine
open SlotWalk SafeMoves

/-! ### One entry through the scheduler's operations -/

theorem switchOff_frame (u : Sched) (l : Load) :
    (u.switchOff l).frameRunning = u.frameRunning ∧ (u.switchOff l).slot = u.slot
      ∧ (u.switchOff l).slotStarted = u.slotStarted := by
  unfold Sched.switchOff
  simp only
  split <;> exact ⟨rfl, rfl, rfl⟩

/-- An entry through a switch-off: given back where it is the one switched off, and otherwise left. -/
theorem switchOff_entry (u : Sched) (l m : Load) :
    (u.switchOff l).entries.get m = u.entries.get m
      ∨ (u.entries.get m).on = true ∧ (u.switchOff l).entries.get m = (u.entries.get m).giveBack u.slotStarted := by
  unfold Sched.switchOff
  simp only
  split
  · next hon =>
    by_cases hm : m = l
    · exact .inr ⟨hm ▸ hon, by simp [hm]⟩
    · exact .inl (by simp [hm])
  · exact .inl rfl

theorem giveBack_off (started : Bool) (e : Entry) : (e.giveBack started).on = false := by
  unfold Entry.giveBack
  split <;> rfl

theorem withdrawBoiler_frame (u : Sched) :
    u.withdrawBoiler.frameRunning = u.frameRunning ∧ u.withdrawBoiler.slot = u.slot
      ∧ u.withdrawBoiler.slotStarted = u.slotStarted := by
  unfold Sched.withdrawBoiler
  simp only
  split <;> exact ⟨rfl, rfl, rfl⟩

/-- An entry through a withdrawal: BOILER without its remaining slots, and the others left (R111). -/
theorem withdrawBoiler_entry (u : Sched) (m : Load) :
    u.withdrawBoiler.entries.get m = u.entries.get m
      ∨ u.withdrawBoiler.entries.get m = { u.entries.get m with remaining := 0, on := false } := by
  unfold Sched.withdrawBoiler
  simp only
  split
  · cases m
    case boiler => exact .inr rfl
    all_goals exact .inl rfl
  · exact .inl rfl

/-! ### The hold, the loads and the mode (O54) -/

/-- The properties of O54, on the fields they read. -/
structure Safe (c : Core) : Prop where
  holdIdle : c.hold = true → c.state.active = false
  captured : c.captured = c.hold
  onFrame : ∀ l, (c.sched.entries.get l).on = true → c.sched.frameRunning = true
  frameRun : c.sched.frameRunning = true → c.state = .running
  runClosed : c.state = .running → c.doorOpen = false ∧ c.hold = false
  modeActive : c.mode = .active ↔ c.state.active = true
  idle : c.idleSet = true ↔ c.mode = .ready
  cooling : c.coolingSet = true ↔ c.mode = .afterRun

theorem safe_coreOf_iff (s : State) : Safe (coreOf s) ↔ HoldExcludesRun s ∧ LoadsOnlyInRunning s ∧ ModeFollowsRun s :=
  ⟨fun h => ⟨⟨h.holdIdle, h.captured⟩, ⟨fun l _ => h.onFrame l, h.frameRun, h.runClosed⟩, h.modeActive, h.idle, h.cooling⟩,
    fun ⟨⟨hholdIdle, hcaptured⟩, ⟨honFrame, hframeRun, hrunClosed⟩, hmode, hidle, hcooling⟩ =>
      ⟨hholdIdle, hcaptured, fun l => honFrame l (mem_loadsInOrder l), hframeRun, hrunClosed, hmode, hidle, hcooling⟩⟩

section
variable {c : Core}

/-- In a mode other than ACTIVE no run is active. -/
theorem Safe.inactive (h : Safe c) (hmode : c.mode ≠ .active) : c.state.active = false :=
  Bool.eq_false_of_not_eq_true fun hactive => hmode (h.modeActive.2 hactive)

theorem Safe.noFrame (h : Safe c) (hstate : c.state ≠ .running) : c.sched.frameRunning = false :=
  Bool.eq_false_of_not_eq_true fun hframe => hstate (h.frameRun hframe)

/-- The scheduler moves within its frame, and no entry goes on. -/
theorem Safe.of_sched (h : Safe c) (u : Sched) (st : SteamCondition) (hframe : u.frameRunning = c.sched.frameRunning)
    (hon : ∀ l, (u.entries.get l).on = true → (c.sched.entries.get l).on = true) :
    Safe { c with sched := u, steam := st } :=
  { h with
    onFrame := fun l hl => hframe.trans (h.onFrame l (hon l hl))
    frameRun := fun hu => h.frameRun (hframe.symm.trans hu) }

/-- With the loads cut nothing is on and no frame runs. -/
theorem Safe.of_cut (h : Safe c) : Safe c.cut :=
  { h with
    onFrame := fun l hl => by simp [Core.cut, Sched.cut, Entry.cut] at hl
    frameRun := nofun }

end

/-- The mode moves to one that no active run has. -/
theorem Safe.of_mode {c : Core} (h : Safe c) {m : ApplianceMode} {idleSet coolingSet : Bool} (hstate : c.state.active = false)
    (hm : m ≠ .active) (hidle : idleSet = true ↔ m = .ready) (hcooling : coolingSet = true ↔ m = .afterRun) :
    Safe { c with mode := m, idleSet := idleSet, coolingSet := coolingSet } :=
  { h with
    modeActive := iff_of_false hm (by simp [hstate])
    idle := hidle
    cooling := hcooling }

/-- Where no frame runs, nothing is on. -/
theorem onFrame_of_noFrame {u : Sched} (h : NoFrame u) (l : Load) (hl : (u.entries.get l).on = true) :
    u.frameRunning = true := by
  rw [(h.entry l).1] at hl
  cases hl

theorem keeps_safe_ended {c : Core} (h : Safe c) : Safe c.ended :=
  { h.of_cut with
    holdIdle := fun _ => rfl
    frameRun := nofun
    runClosed := nofun
    modeActive := iff_of_false nofun nofun
    idle := iff_of_false nofun nofun
    cooling := iff_of_true rfl rfl }

/-- Every move keeps the properties of O54. -/
theorem move_keeps_safe {F : Prop} {c c' : Core} (h : Safe c) (hmove : Move F c c') : Safe c' := by
  cases hmove with
  | wake hmode =>
    have hactive : c.mode ≠ .active := by obtain hm | hm := hmode <;> rw [hm] <;> exact nofun
    have hafter : c.mode ≠ .afterRun := by obtain hm | hm := hmode <;> rw [hm] <;> exact nofun
    exact h.of_mode (h.inactive hactive) nofun (by simp) (iff_of_false (mt h.cooling.1 hafter) nofun)
  | sleep hmode =>
    have hcooling : ¬ c.coolingSet = true := fun hset => by simp [h.cooling.1 hset] at hmode
    exact h.of_mode (h.inactive (by rw [hmode]; exact nofun)) nofun (by simp) (iff_of_false hcooling nofun)
  | settle hmode => exact h.of_mode (h.inactive (by rw [hmode]; exact nofun)) nofun (by simp) (by simp)
  | afterRun hidle => exact h.of_mode hidle nofun (by simp) (by simp)
  | door b hclosed =>
    exact { h with
      runClosed := fun hrun => ⟨Bool.eq_false_of_not_eq_true fun hb => hclosed hb hrun, (h.runClosed hrun).2⟩ }
  | level v _ => exact { h with }
  | hold hidle =>
    exact { h with
      holdIdle := fun _ => hidle
      captured := rfl
      runClosed := fun hrun => by rw [show c.state = .running from hrun] at hidle; cases hidle }
  | release =>
    exact { h with
      holdIdle := nofun
      captured := rfl
      runClosed := fun hrun => ⟨(h.runClosed hrun).1, rfl⟩ }
  | start k st hidle hhold hdoor hst =>
    have hframe : c.sched.frameRunning = false := h.noFrame fun hrun => by rw [hrun] at hidle; cases hidle
    exact { h with
      holdIdle := fun hh => by rw [show c.hold = true from hh] at hhold; cases hhold
      frameRun := fun hf => by rw [show c.sched.frameRunning = true from hf] at hframe; cases hframe
      runClosed := fun _ => ⟨hdoor, hhold⟩
      modeActive := iff_of_true rfl hst
      idle := iff_of_false nofun nofun
      cooling := iff_of_false nofun nofun }
  | run st hactive hst hleave hdoor =>
    have hhold : c.hold = false := Bool.eq_false_of_not_eq_true fun hh => by simp [h.holdIdle hh] at hactive
    have hframe : c.sched.frameRunning = false := by
      by_cases hrun : c.state = .running
      · exact (hleave hrun).1
      · exact h.noFrame hrun
    exact { h with
      holdIdle := fun hh => by rw [show c.hold = true from hh] at hhold; cases hhold
      frameRun := fun hf => by rw [show c.sched.frameRunning = true from hf] at hframe; cases hframe
      runClosed := fun hrun => ⟨hdoor hrun, hhold⟩
      modeActive := iff_of_true (h.modeActive.2 hactive) hst }
  | ended => exact keeps_safe_ended h
  | reset hstate hmode hidle hcooling hsteam hsched hhold =>
    have hcaptured : c'.captured = c'.hold := hhold.elim id fun ⟨hh, hc⟩ => by rw [hh, hc, h.captured]
    exact {
      holdIdle := fun _ => by rw [hstate]; rfl
      captured := hcaptured
      onFrame := onFrame_of_noFrame hsched
      frameRun := fun hf => by simp [hsched.frameRunning] at hf
      runClosed := fun hrun => by simp [hstate] at hrun
      modeActive := iff_of_false (by obtain hm | hm := hmode <;> simp [hm]) (by simp [hstate, RunState.active])
      idle := hidle
      cooling := iff_of_false (by simp [hcooling]) (by obtain hm | hm := hmode <;> simp [hm]) }
  | cut => exact h.of_cut
  | withdraw =>
    refine h.of_sched _ .withheld (withdrawBoiler_frame _).1 fun l hl => ?_
    obtain heq | heq := withdrawBoiler_entry c.sched l <;> rw [heq] at hl
    · exact hl
    · cases hl
  | frame requests st hrun hfit hcook =>
    exact { h with
      onFrame := fun _ _ => rfl
      frameRun := fun _ => hrun }
  | slot n hframe hn =>
    exact { h with onFrame := fun _ _ => hframe }
  | switchOff l =>
    refine h.of_sched _ c.steam (switchOff_frame _ l).1 fun m hm => ?_
    obtain heq | ⟨-, heq⟩ := switchOff_entry c.sched l m <;> rw [heq] at hm
    · exact hm
    · rw [giveBack_off] at hm; cases hm
  | refigure u hsame => exact h.of_sched u c.steam hsame.frameRunning fun l hl => (hsame.entry l).1 ▸ hl

theorem reach_keeps_safe {F : Prop} {c c' : Core} (hreach : Reach F c c') (h : Safe c) : Safe c' := by
  induction hreach with
  | refl => exact h
  | tail _ hmove ih => exact move_keeps_safe ih hmove

/-- Settles O54: a step is a run of moves, and each move keeps the three properties. -/
theorem loadsAndHoldStaySafe : Obligations.LoadsAndHoldStaySafe := fun s t hsafe hstep =>
  (safe_coreOf_iff t).1 (reach_keeps_safe (step_reach (F := False) nofun hstep) ((safe_coreOf_iff s).2 hsafe))

/-! ### The frame's figures and steam (O55) -/

/-- The properties of O55, on the fields they read. -/
structure InOrder (c : Core) : Prop where
  boilerWet : (c.sched.entries.get .boiler).on = true → c.level = .wet
  entry : ∀ l, (c.sched.entries.get l).inFrame c.sched.slotStarted
  slot : c.sched.slot ≤ 39
  steam : c.steam = .admitted → c.state = .running ∧ c.kind = .cook

theorem inOrder_coreOf_iff (s : State) : InOrder (coreOf s) ↔ BoilerOnlyWet s ∧ EntriesInFrame s ∧ SteamOnlyInCook s :=
  ⟨fun h => ⟨h.boilerWet, ⟨fun l _ => h.entry l, h.slot⟩, h.steam⟩,
    fun ⟨hwet, ⟨hentry, hslot⟩, hsteam⟩ => ⟨hwet, fun l => hentry l (mem_loadsInOrder l), hslot, hsteam⟩⟩

/-- An entry within its request stays so without a remaining slot, switched off. -/
theorem inFrame_emptied {started started' : Bool} {e e' : Entry} (h : e.inFrame started) (hrequest : e'.request = e.request)
    (hgranted : e'.granted = e.granted) (hremaining : e'.remaining = 0) (hoff : e'.on = false) : e'.inFrame started' := by
  obtain ⟨hmax, hsum, -⟩ := h
  exact ⟨hrequest ▸ hmax, by omega, fun _ hon => by simp [hoff] at hon⟩

theorem inFrame_zero {started : Bool} {e : Entry} (hoff : e.on = false) (hrequest : e.request = 0)
    (hremaining : e.remaining = 0) (hgranted : e.granted = 0) : e.inFrame started :=
  ⟨by omega, by omega, fun _ hon => by simp [hoff] at hon⟩

/-- A slot is given back only by an entry that was granted it (R110, R112, R118). -/
theorem inFrame_giveBack {started : Bool} {e : Entry} (h : e.inFrame started) (hon : e.on = true) :
    (e.giveBack started).inFrame started := by
  obtain ⟨hmax, hsum, hgranted⟩ := h
  unfold Entry.giveBack
  split
  · next hs =>
    have hpos := hgranted hs hon
    exact ⟨hmax, by simp only; omega, fun _ hoff => by cases hoff⟩
  · exact ⟨hmax, hsum, fun _ hoff => by cases hoff⟩

theorem inFrame_form {e : Entry} {demand : Nat} (h : demand ≤ 40) : (e.form demand).inFrame false := by
  have hrequest : (if e.rampStep = 0 then demand else min demand (e.rampBase + e.rampStep)) ≤ 40 := by split <;> omega
  exact ⟨hrequest, Nat.le_of_eq (Nat.zero_add _), nofun⟩

/-- A walked entry moves a slot from those remaining to those granted, or none (R106). -/
theorem inFrame_decided {started : Bool} {e : Entry} {on : Bool} (h : e.inFrame started)
    (howed : on = true → 0 < e.remaining) : (decided on e).inFrame true := by
  obtain ⟨hmax, hsum, -⟩ := h
  cases on
  · exact ⟨hmax, hsum, fun _ hoff => by cases hoff⟩
  · have hpos := howed rfl
    refine ⟨hmax, ?_, fun _ _ => Nat.le_add_left 1 _⟩
    show e.granted + 1 + (e.remaining - 1) ≤ e.request
    omega

/-- The scheduler moves, and the run and the level with it do not. -/
theorem InOrder.of_sched {c : Core} (h : InOrder c) (u : Sched) {st : SteamCondition}
    (hboiler : (u.entries.get .boiler).on = true → (c.sched.entries.get .boiler).on = true)
    (hentry : ∀ l, (u.entries.get l).inFrame u.slotStarted) (hslot : u.slot ≤ 39)
    (hsteam : st = .admitted → c.steam = .admitted) :
    InOrder { c with sched := u, steam := st } :=
  ⟨fun hon => h.boilerWet (hboiler hon), hentry, hslot, fun hst => h.steam (hsteam hst)⟩

theorem InOrder.of_cut {c : Core} (h : InOrder c) : InOrder c.cut :=
  h.of_sched c.sched.cut (fun hon => by simp [Sched.cut, Entry.cut] at hon)
    (fun l => by
      rw [show c.sched.cut.entries.get l = (c.sched.entries.get l).cut from PerLoad.get_map ..]
      exact inFrame_emptied (h.entry l) rfl rfl rfl rfl)
    (Nat.zero_le 39) nofun

/-- Where no frame is ADMITTED to steam, the run may move. -/
theorem InOrder.of_run {c : Core} (h : InOrder c) (hsteam : c.steam ≠ .admitted) (st : RunState) (k : RunKind) :
    InOrder { c with state := st, kind := k } :=
  { h with steam := fun hst => absurd hst hsteam }

theorem InOrder.not_steaming {c : Core} (h : InOrder c) (hstate : c.state ≠ .running) : c.steam ≠ .admitted :=
  fun hst => hstate (h.steam hst).1

/-- Every move keeps the properties of O55 where the program table's steam levels fit. -/
theorem move_keeps_inOrder {c c' : Core} (h : InOrder c) (hmove : Move True c c') : InOrder c' := by
  cases hmove with
  | wake _ => exact { h with }
  | sleep _ => exact { h with }
  | settle _ => exact { h with }
  | afterRun _ => exact { h with }
  | door _ _ => exact { h with }
  | level v hwet => exact { h with boilerWet := hwet }
  | hold _ => exact { h with }
  | release => exact { h with }
  | start k st hidle _ _ _ =>
    have hrun := h.of_run (h.not_steaming fun hrun => by rw [hrun] at hidle; cases hidle) st k
    exact { hrun with }
  | run st _ _ hleave _ =>
    have hsteam : c.steam ≠ .admitted := fun hst => (hleave (h.steam hst).1).2 hst
    exact h.of_run hsteam st c.kind
  | ended => exact { h.of_cut with steam := nofun }
  | reset _ _ _ _ hsteam hsched _ =>
    refine ⟨fun hon => ?_, fun l => ?_, by rw [hsched.slot]; exact Nat.zero_le _, fun hst => ?_⟩
    · rw [(hsched.entry .boiler).1] at hon; cases hon
    · obtain ⟨hoff, hrequest, hremaining, hgranted⟩ := hsched.entry l
      exact inFrame_zero hoff hrequest hremaining hgranted
    · rw [hsteam] at hst; cases hst
  | cut => exact h.of_cut
  | withdraw =>
    obtain ⟨-, hslot, hstarted⟩ := withdrawBoiler_frame c.sched
    refine h.of_sched _ (fun hon => ?_) (fun l => ?_) (hslot ▸ h.slot) nofun
    · obtain heq | heq := withdrawBoiler_entry c.sched .boiler <;> rw [heq] at hon
      · exact hon
      · cases hon
    · rw [hstarted]
      obtain heq | heq := withdrawBoiler_entry c.sched l <;> rw [heq]
      · exact h.entry l
      · exact inFrame_emptied (h.entry l) rfl rfl rfl rfl
  | frame requests st hrun hfit hcook =>
    refine ⟨fun hon => h.boilerWet ?_, fun l => ?_, Nat.zero_le 39, fun hst => ⟨hrun, hcook hst⟩⟩
    · rwa [show ((c.sched.formFrame requests).entries.get .boiler).on = (c.sched.entries.get .boiler).on from rfl] at hon
    · rw [show (c.sched.formFrame requests).entries.get l = (c.sched.entries.get l).form (requests.get l) from
        PerLoad.get_zip ..]
      exact inFrame_form (hfit trivial l)
  | slot n hframe hn =>
    have hwalked := walk_walked c.sched.entries c.sched.computed c.sched.scan (decide (c.level = .wet)) n
    refine ⟨fun hon => ?_, fun l => ?_, ?_, h.steam⟩
    · simpa using (hwalked.chosen .boiler hon).2 rfl
    · show Entry.inFrame true ((walk _ _ _ _ n).entries.get l)
      rw [hwalked.entry l]
      exact inFrame_decided (h.entry l) fun hon => (hwalked.chosen l hon).1.2
    · obtain rfl | hn := hn
      · exact h.slot
      · exact hn
  | switchOff l =>
    obtain ⟨-, hslot, hstarted⟩ := switchOff_frame c.sched l
    refine h.of_sched _ (fun hon => ?_) (fun m => ?_) (hslot ▸ h.slot) id
    · obtain heq | ⟨hwas, -⟩ := switchOff_entry c.sched l .boiler
      · rwa [heq] at hon
      · exact hwas
    · rw [hstarted]
      obtain heq | ⟨hwas, heq⟩ := switchOff_entry c.sched l m <;> rw [heq]
      · exact h.entry m
      · exact inFrame_giveBack (h.entry m) hwas
  | refigure u hsame =>
    refine h.of_sched u (fun hon => (hsame.entry .boiler).1 ▸ hon) (fun l => ?_) (hsame.slot ▸ h.slot) id
    obtain ⟨hon, hrequest, hremaining, hgranted⟩ := hsame.entry l
    unfold Entry.inFrame
    rw [hsame.slotStarted, hon, hrequest, hremaining, hgranted]
    exact h.entry l

theorem reach_keeps_inOrder {c c' : Core} (hreach : Reach True c c') (h : InOrder c) : InOrder c' := by
  induction hreach with
  | refl => exact h
  | tail _ hmove ih => exact move_keeps_inOrder ih hmove

/-- Settles O55: a step is a run of moves, and each move keeps the three properties; a frame's requests stay within its 40 slots
because the program table's records are acceptable. -/
theorem framesStayInOrder : Obligations.FramesStayInOrder := fun s t ⟨hwet, hentries, _, hrecords, hsteam⟩ hstep =>
  have hfit : True → LevelsFit s.prog.steps := fun _ x hx => levelFits_of_acceptable (hrecords.1.2 x hx)
  (inOrder_coreOf_iff t).1 (reach_keeps_inOrder (step_reach hfit hstep) ((inOrder_coreOf_iff s).2 ⟨hwet, hentries, hsteam⟩))

end Sys2Proof.Machine.SafeLoads
end

section
/-! PROOF. The supply settings and the element configuration (O27, O28): a command that stores settings of the scheduler, refused
or taken, and then what each of the three commands refuses and stores. -/

namespace Sys2Proof.Machine.SupplySettings

open Sys2Proof Sys2Proof.Machine
open Calibration

/-! ### A command that stores settings of the scheduler (R116 to R118, R185) -/

/-- What a command leaves that stores f of the scheduler's settings and requests a save. -/
def settingsStored (p : Port) (echo : Byte) (f : Sched → Sched) (s : State) : State :=
  respond p echo .ok [] (requestSave ((heardBy p s).mapSched f))

theorem heardBy_sched (p : Port) (s : State) : (heardBy p s).sched = s.sched := by simp [heardBy]

section
variable (p : Port) (echo : Byte) (f : Sched → Sched) (s : State)

theorem settingsStored_sched : (settingsStored p echo f s).sched = f s.sched := by
  simp [settingsStored, heardBy_sched]

theorem settingsStored_answered : Answered p echo .ok [] (heardBy p s) (settingsStored p echo f s) :=
  respond_answered _ _ _ _ (by simp)

theorem settingsStored_posted : Posted [] (heardBy p s) (settingsStored p echo f s) := respond_posted _ _ _ _ (by simp)

theorem settingsStored_saves : SaveRequested (heardBy p s) (settingsStored p echo f s) := respond_saveRequested _ _ _ _ rfl

theorem settingsStored_sameExcept : SameExcept [.ports, .sched, .store] (heardBy p s) (settingsStored p echo f s) :=
  respond_sameExcept _ _ _ _ List.mem_cons_self fun b hb => by cases b <;> simp [Block.same] at hb ⊢

end

section
variable {p : Port} {echo : Byte} {a : Access} {owner : State → Reply} {s : State}

theorem command_notPermitted (h : permits a p = false) :
    OnlyAnswered p echo .notPermitted [] (heardBy p s) (command p echo a owner s) := by
  have hcommand : command p echo a owner s = respond p echo .notPermitted [] (heardBy p s) := if_neg (by simp [h])
  rw [hcommand]
  exact respond_onlyAnswered ..

/-- A permitted command is answered with its owner's reply. -/
theorem command_permitted {r : Reply} (h : permits a p = true) (howner : owner (heardBy p s) = r) :
    command p echo a owner s = respond p echo r.status r.payload r.state := by
  subst howner
  exact if_pos h

theorem command_stored {f : Sched → Sched} (h : permits a p = true)
    (howner : owner (heardBy p s) = done .ok (requestSave ((heardBy p s).mapSched f))) :
    command p echo a owner s = settingsStored p echo f s :=
  command_permitted h howner

theorem command_refused {st : Status} (h : permits a p = true) (howner : owner (heardBy p s) = refuse st (heardBy p s)) :
    OnlyAnswered p echo st [] (heardBy p s) (command p echo a owner s) := by
  rw [command_permitted h howner]
  exact respond_onlyAnswered ..

end

/-! ### Operands (12.6) -/

theorem budgetModeOf_eq (mode : Byte) :
    budgetModeOf mode = if mode ≠ 1 ∧ mode ≠ 2 then none else some (if mode = 1 then .adaptive else .manual) := by
  unfold budgetModeOf
  split
  · next h => rw [BitVec.eq_of_toNat_eq (y := 1) h]; rfl
  · next h => rw [BitVec.eq_of_toNat_eq (y := 2) h]; rfl
  · next h1 h2 => exact (if_pos ⟨fun h => h1 (h ▸ rfl), fun h => h2 (h ▸ rfl)⟩).symm

theorem yesNoOf_eq (b : Byte) : yesNoOf b = if b ≠ 0 ∧ b ≠ 1 then none else some (decide (b = 1)) := by
  unfold yesNoOf
  split
  · next h => rw [BitVec.eq_of_toNat_eq (y := 0) h]; rfl
  · next h => rw [BitVec.eq_of_toNat_eq (y := 1) h]; rfl
  · next h0 h1 => exact (if_pos ⟨fun h => h0 (h ▸ rfl), fun h => h1 (h ▸ rfl)⟩).symm

theorem loadOf_eq_getElem? (entry : Byte) : loadOf entry = loadsInOrder[entry.toNat]? := by
  unfold loadOf
  split
  iterate 5
    · next h => rw [h]; rfl
  · next h0 h1 h2 h3 h4 =>
    have hpast : loadsInOrder.length ≤ entry.toNat := by
      have hne : entry.toNat ≠ 0 ∧ entry.toNat ≠ 1 ∧ entry.toNat ≠ 2 ∧ entry.toNat ≠ 3 ∧ entry.toNat ≠ 4 :=
        ⟨h0, h1, h2, h3, h4⟩
      show 5 ≤ entry.toNat
      omega
    exact (List.getElem?_eq_none hpast).symm

/-! ### SET_BUDGET and SET_SUPPLY (R116, R117) -/

/-- What R116 refuses. -/
abbrev BudgetRefused (u : Sched) (mode : Byte) (floor : Half) (manual : Option Half) : Prop :=
  (mode ≠ 1 ∧ mode ≠ 2) ∨ floor.toNat < 800 ∨ 3600 < floor.toNat ∨ u.limit < floor.toNat
    ∨ (∃ v ∈ manual, v.toNat < 800 ∨ 7400 < v.toNat ∨ u.limit < v.toNat) ∨ (mode = 2 ∧ manual = none ∧ u.manual = none)

/-- The budget settings as SET_BUDGET stores them; a manual value that it does not carry stays. -/
def budgetStored (mode : Byte) (floor : Half) (manual : Option Half) (u : Sched) : Sched :=
  { u with
    mode := if mode = 1 then .adaptive else .manual
    floor := floor.toNat
    manual := if manual = none then u.manual else manual.map (·.toNat) }

theorem budgetAccepted_iff {u : Sched} {mode : Byte} {floor : Half} {manual : Option Half}
    (hmode : ¬ (mode ≠ 1 ∧ mode ≠ 2)) :
    budgetAccepted u (if mode = 1 then .adaptive else .manual) floor.toNat (manual.map (·.toNat)) = true
      ↔ ¬ BudgetRefused u mode floor manual := by
  unfold budgetAccepted BudgetRefused
  obtain rfl | rfl : mode = 1 ∨ mode = 2 := by tauto
  · cases manual <;> simp [and_assoc]
  · cases manual <;> simp [and_assoc]

theorem setBudgetReply_eq (mode : Byte) (floor : Half) (manual : Option Half) (s : State) :
    setBudgetReply mode floor manual s =
      if BudgetRefused s.sched mode floor manual then refuse .range s
      else done .ok (requestSave (s.mapSched (budgetStored mode floor manual))) := by
  rw [setBudgetReply, budgetModeOf_eq]
  by_cases hmode : mode ≠ 1 ∧ mode ≠ 2
  · rw [if_pos hmode, if_pos (.inl hmode)]
  · have hstored : ∀ u : Sched, (manual.map (·.toNat)).or u.manual =
        if manual = none then u.manual else manual.map (·.toNat) := fun u => by cases manual <;> rfl
    simp only [if_neg hmode, budgetAccepted_iff hmode, hstored]
    rw [ite_not]
    rfl

/-- What R117 refuses. -/
abbrev SupplyRefused (u : Sched) (limit : Half) (volts scan : Byte) : Prop :=
  limit.toNat < 1000 ∨ 7400 < limit.toNat ∨ limit.toNat < u.floor ∨ (∃ v ∈ u.manual, limit.toNat < v)
    ∨ volts.toNat < 200 ∨ 250 < volts.toNat ∨ (scan ≠ 0 ∧ scan ≠ 1)

/-- The supply settings as SET_SUPPLY stores them. -/
def supplyStored (limit : Half) (volts scan : Byte) (u : Sched) : Sched :=
  { u with limit := limit.toNat, volts := volts.toNat, scan := scan = 1 }

theorem supplyAccepted_iff {u : Sched} {limit : Half} {volts scan : Byte} (hscan : ¬ (scan ≠ 0 ∧ scan ≠ 1)) :
    supplyAccepted u limit.toNat volts.toNat = true ↔ ¬ SupplyRefused u limit volts scan := by
  unfold supplyAccepted SupplyRefused
  obtain rfl | rfl : scan = 0 ∨ scan = 1 := by tauto
  · cases u.manual <;> simp [and_assoc]
  · cases u.manual <;> simp [and_assoc]

theorem setSupplyReply_eq (limit : Half) (volts scan : Byte) (s : State) :
    setSupplyReply limit volts scan s =
      if SupplyRefused s.sched limit volts scan then refuse .range s
      else done .ok (requestSave (s.mapSched (supplyStored limit volts scan))) := by
  rw [setSupplyReply, yesNoOf_eq]
  by_cases hscan : scan ≠ 0 ∧ scan ≠ 1
  · rw [if_pos hscan, if_pos (by tauto)]
  · simp only [if_neg hscan, supplyAccepted_iff hscan]
    rw [ite_not]
    rfl

/-- Settles O27: each command refused by its port, refused by what R116 and R117 list, or stored and saved. -/
theorem supplySettingsAreSet : Obligations.SupplySettingsAreSet := by
  refine ⟨fun p mode floor manual s => ⟨_, rfl, ?budget⟩, fun p limit volts scan s => ⟨_, rfl, ?supply⟩⟩
  case budget =>
    have hreply := setBudgetReply_eq mode floor manual (heardBy p s)
    rw [heardBy_sched] at hreply
    split
    · next hp => exact command_notPermitted (by simp [permits, hp])
    · next hp =>
      have hpermits : permits .notLink p = true := by simp [permits, hp]
      split
      · next hr => exact command_refused hpermits (hreply.trans (if_pos hr))
      · next hr =>
        rw [command_stored hpermits (hreply.trans (if_neg hr))]
        exact ⟨settingsStored_answered .., settingsStored_posted _ _ _ _, settingsStored_sched .., settingsStored_saves ..,
          settingsStored_sameExcept _ _ _ _⟩
  case supply =>
    have hreply := setSupplyReply_eq limit volts scan (heardBy p s)
    rw [heardBy_sched] at hreply
    split
    · next hp => exact command_notPermitted (by simp [permits, hp])
    · next hp =>
      have hpermits : permits .serviceOnly p = true := by simp [permits, not_not.1 hp]
      split
      · next hr => exact command_refused hpermits (hreply.trans (if_pos hr))
      · next hr =>
        rw [command_stored hpermits (hreply.trans (if_neg hr))]
        exact ⟨settingsStored_answered .., settingsStored_posted _ _ _ _, settingsStored_sched .., settingsStored_saves ..,
          settingsStored_sameExcept _ _ _ _⟩

/-! ### ELEMENT_CONFIG (R118) -/

/-- What R118 refuses of the three fields. -/
abbrev FieldsRefused (ratedW : Half) (enabled rampStep : Byte) : Prop :=
  ratedW.toNat < 100 ∨ 3500 < ratedW.toNat ∨ 1 < enabled.toNat ∨ 40 < rampStep.toNat

theorem one_lt_toNat_iff (b : Byte) : 1 < b.toNat ↔ b ≠ 0 ∧ b ≠ 1 := by
  bv_omega

section
variable {entry : Byte} {l : Load} {ratedW : Half} {enabled rampStep : Byte} {s : State}

theorem elementConfigReply_unknown (h : loadOf entry = none) :
    elementConfigReply entry ratedW enabled rampStep s = refuse .range s := by
  rw [elementConfigReply, h]

theorem elementConfigReply_eq (h : loadOf entry = some l) :
    elementConfigReply entry ratedW enabled rampStep s =
      if FieldsRefused ratedW enabled rampStep then refuse .range s
      else done .ok (requestSave (s.mapSched (configureEntry l ratedW.toNat (enabled = 1) rampStep.toNat))) := by
  have hflag := one_lt_toNat_iff enabled
  rw [elementConfigReply, h, yesNoOf_eq]
  by_cases he : enabled ≠ 0 ∧ enabled ≠ 1
  · rw [if_pos he, if_pos (.inr (.inr (.inl (hflag.2 he))))]
  · have hlist : FieldsRefused ratedW enabled rampStep ↔ ratedW.toNat < 100 ∨ ratedW.toNat > 3500 ∨ rampStep.toNat > 40 := by
      simp [FieldsRefused, mt hflag.1 he]
    simp only [if_neg he, hlist]

end

/-- The entry with the three fields stored (R118). -/
def configured (ratedW : Nat) (enabled : Bool) (rampStep : Nat) (e : Entry) : Entry :=
  { e with ratedW := ratedW, enabled := enabled, rampStep := rampStep }

section
variable (l : Load) (ratedW : Nat) (enabled : Bool) (rampStep : Nat) (u : Sched)

/-- Only the entries and current slot watts move. -/
theorem configureEntry_rest :
    configureEntry l ratedW enabled rampStep u =
      { u with
        entries := (configureEntry l ratedW enabled rampStep u).entries
        curW := (configureEntry l ratedW enabled rampStep u).curW } := by
  unfold configureEntry Sched.switchOff
  simp only
  split
  · rfl
  · split <;> rfl

theorem configureEntry_other {m : Load} (hm : m ≠ l) :
    (configureEntry l ratedW enabled rampStep u).entries.get m = u.entries.get m := by
  unfold configureEntry Sched.switchOff
  simp only
  split
  · simp [hm]
  · split <;> simp [hm]

/-- An entry that is enabled, or off already, takes the fields and nothing else. -/
theorem configureEntry_stays (h : enabled = true ∨ (u.entries.get l).on = false) :
    (configureEntry l ratedW enabled rampStep u).entries.get l = configured ratedW enabled rampStep (u.entries.get l)
      ∧ (configureEntry l ratedW enabled rampStep u).curW = u.curW := by
  obtain rfl | hoff := h
  · simp [configureEntry, configured]
  · simp [configureEntry, configured, Sched.switchOff, hoff]

/-- An entry that is on is switched off by its disable, with its slot given back and its watts taken off (R107, R118). -/
theorem configureEntry_switchesOff (hon : (u.entries.get l).on = true) :
    (configureEntry l ratedW false rampStep u).entries.get l =
        (configured ratedW false rampStep (u.entries.get l)).giveBack u.slotStarted
      ∧ (configureEntry l ratedW false rampStep u).curW = u.curW - (u.entries.get l).slotRated := by
  simp [configureEntry, configured, Sched.switchOff, hon]

end

/-- Settles O28: the entry past the five refused, the entries in position order, and the fields refused, or stored with the
switch-off of a disable. -/
theorem elementIsConfigured : Obligations.ElementIsConfigured := by
  refine ⟨fun entry ratedW enabled rampStep s hpast => ⟨_, rfl, ?past⟩, loadOf_eq_getElem?,
    fun l entry ratedW enabled rampStep s hl => ⟨_, rfl, ?fields⟩⟩
  case past =>
    have hnone : loadOf entry = none := by
      rw [loadOf_eq_getElem?]
      exact List.getElem?_eq_none hpast
    exact command_refused rfl (elementConfigReply_unknown hnone)
  case fields =>
    have hreply := elementConfigReply_eq (ratedW := ratedW) (enabled := enabled) (rampStep := rampStep)
      (s := heardBy .service s) hl
    simp only
    split
    · next hr => exact command_refused rfl (hreply.trans (if_pos hr))
    · next hr =>
      rw [command_stored rfl (hreply.trans (if_neg hr))]
      have hsched := settingsStored_sched .service 0x60 (configureEntry l ratedW.toNat (enabled = 1) rampStep.toNat) s
      refine ⟨settingsStored_answered .., settingsStored_posted _ _ _ _, settingsStored_saves ..,
        settingsStored_sameExcept _ _ _ _, ?_⟩
      rw [hsched]
      refine ⟨fun m hm => configureEntry_other _ _ _ _ _ hm, fun hstays => ?_, fun hdisable hon hstarted => ?_,
        fun hdisable hon hstarted => ?_, configureEntry_rest _ _ _ _ _⟩
      · exact configureEntry_stays _ _ _ _ _ (by simpa using hstays)
      · obtain ⟨hentry, hwatts⟩ := configureEntry_switchesOff l ratedW.toNat rampStep.toNat s.sched hon
        subst hdisable
        rw [hstarted] at hentry
        exact ⟨hentry, hwatts⟩
      · obtain ⟨hentry, hwatts⟩ := configureEntry_switchesOff l ratedW.toNat rampStep.toNat s.sched hon
        subst hdisable
        rw [hstarted] at hentry
        exact ⟨hentry, hwatts⟩

end Sys2Proof.Machine.SupplySettings
end

section
/-! PROOF. The scheduler takes a round (O47): what a shed does to one entry, which entries of a list it reaches and what they come
to, and the budget row from it. -/

namespace Sys2Proof.Machine.BudgetRound

open Sys2Proof Sys2Proof.Machine
open SlotWalk

/-! ### One entry shed (R112) -/

/-- An entry shed: switched off and, where the slot belongs to the frame, its slot given back and the shed counted. -/
def shedEntry (started : Bool) (e : Entry) : Entry :=
  if started then { e with on := false, remaining := e.remaining + 1, granted := e.granted - 1, sheds := e.sheds + 1 }
  else { e with on := false }

theorem shedEntry_off (started : Bool) (e : Entry) : (shedEntry started e).on = false := by
  unfold shedEntry
  split <;> rfl

section
variable {u : Sched} {l : Load} (hon : (u.entries.get l).on = true)
include hon

theorem shedOne_get (m : Load) :
    (u.shedOne l).entries.get m = if m = l then shedEntry u.slotStarted (u.entries.get m) else u.entries.get m := by
  unfold Sched.shedOne Sched.switchOff shedEntry Entry.giveBack
  simp only [if_pos hon]
  cases u.slotStarted
  · simp
  · simp only [if_pos, PerLoad.get_modify]
    split <;> rfl

theorem shedOne_figures :
    (u.shedOne l).curW = u.curW - (u.entries.get l).slotRated ∧ (u.shedOne l).slotStarted = u.slotStarted := by
  unfold Sched.shedOne Sched.switchOff
  simp only [if_pos hon]
  split <;> exact ⟨rfl, rfl⟩

end

/-! ### Which entries of a list are shed -/

/-- The rated watts of the entries of a list that are on. -/
def onWatts (u : Sched) (ls : List Load) : Nat :=
  (ls.map fun m => if (u.entries.get m).on then (u.entries.get m).ratedW else 0).sum

/-- The entry is on, and those on before it in the list do not cover the excess. -/
def isShed (u : Sched) (ls : List Load) (excess : Nat) (m : Load) : Bool :=
  (u.entries.get m).on && decide (onWatts u (ls.takeWhile fun k => k ≠ m) < excess)

theorem isShed_iff {u : Sched} {ls : List Load} {excess : Nat} {m : Load} :
    isShed u ls excess m = true ↔ (u.entries.get m).on = true ∧ onWatts u (ls.takeWhile fun k => k ≠ m) < excess := by
  simp [isShed]

theorem isShed_zero (u : Sched) (ls : List Load) (m : Load) : isShed u ls 0 m = false := by simp [isShed]

theorem isShed_off {u : Sched} {m : Load} (h : (u.entries.get m).on = false) (ls : List Load) (excess : Nat) :
    isShed u ls excess m = false := by simp [isShed, h]

/-- The first of a list is shed while there is an excess. -/
theorem isShed_head (u : Sched) (l : Load) (ls : List Load) {excess : Nat} (hx : 0 < excess) :
    isShed u (l :: ls) excess l = (u.entries.get l).on := by simp [isShed, onWatts, hx]

/-- A figure of the entries of a list that are shed, summed. -/
def shedSum (f : Entry → Nat) (u : Sched) (ls : List Load) (excess : Nat) : Nat :=
  (ls.map fun m => if isShed u ls excess m then f (u.entries.get m) else 0).sum

theorem shedSum_zero (f : Entry → Nat) (u : Sched) (ls : List Load) : shedSum f u ls 0 = 0 := by
  simp [shedSum, isShed_zero]

section
variable {u v : Sched} {l : Load} {ls : List Load} {excess rest : Nat} (hl : l ∉ ls)
  (hother : ∀ m, m ≠ l → v.entries.get m = u.entries.get m)
  (hrest : rest = excess - if (u.entries.get l).on then (u.entries.get l).ratedW else 0)
include hl hother hrest

/-- What is left of the excess after the first of a list decides the others. -/
theorem isShed_cons {m : Load} (hm : m ∈ ls) : isShed u (l :: ls) excess m = isShed v ls rest m := by
  have hne : m ≠ l := ne_of_mem_of_not_mem hm hl
  have hbefore : onWatts v (ls.takeWhile fun k => k ≠ m) = onWatts u (ls.takeWhile fun k => k ≠ m) := by
    refine congrArg List.sum (List.map_congr_left fun k hk => ?_)
    rw [hother k (ne_of_mem_of_not_mem ((List.takeWhile_sublist _).subset hk) hl)]
  have hhead : onWatts u ((l :: ls).takeWhile fun k => k ≠ m) =
      (if (u.entries.get l).on then (u.entries.get l).ratedW else 0) + onWatts u (ls.takeWhile fun k => k ≠ m) := by
    rw [List.takeWhile_cons_of_pos (by simpa using hne.symm)]
    rfl
  rw [Bool.eq_iff_iff, isShed_iff, isShed_iff, hhead, hbefore, hother m hne, hrest]
  exact and_congr_right fun _ => by omega

theorem shedSum_cons (f : Entry → Nat) :
    shedSum f u (l :: ls) excess =
      (if isShed u (l :: ls) excess l then f (u.entries.get l) else 0) + shedSum f v ls rest := by
  have htail : (ls.map fun m => if isShed u (l :: ls) excess m then f (u.entries.get m) else 0) =
      ls.map fun m => if isShed v ls rest m then f (v.entries.get m) else 0 := List.map_congr_left fun m hm => by
    rw [hother m (ne_of_mem_of_not_mem hm hl), isShed_cons hl hother hrest hm]
  unfold shedSum
  rw [List.map_cons, List.sum_cons, htail]

end

/-! ### A shed over a list -/

theorem shedList_zero (u : Sched) (ls : List Load) : Sched.shedList ls 0 u = u := by
  cases ls <;> rfl

/-- A shed goes from the first of a list, shed where it is on, to the others with what is left of the excess. -/
theorem shedList_cons (u : Sched) (l : Load) (ls : List Load) {excess : Nat} (hx : 0 < excess) :
    ∃ v : Sched, Sched.shedList (l :: ls) excess u =
        Sched.shedList ls (excess - if (u.entries.get l).on then (u.entries.get l).ratedW else 0) v
      ∧ v.slotStarted = u.slotStarted ∧ (∀ m, m ≠ l → v.entries.get m = u.entries.get m)
      ∧ v.entries.get l = (if (u.entries.get l).on then shedEntry u.slotStarted (u.entries.get l) else u.entries.get l)
      ∧ v.curW = u.curW - if (u.entries.get l).on then (u.entries.get l).slotRated else 0 := by
  have hpos : ¬ excess = 0 := by omega
  by_cases hon : (u.entries.get l).on = true
  · obtain ⟨hwatts, hstarted⟩ := shedOne_figures hon
    simp only [if_pos hon]
    exact ⟨u.shedOne l, (if_neg hpos).trans (if_pos hon), hstarted, fun m hm => by rw [shedOne_get hon, if_neg hm],
      by rw [shedOne_get hon, if_pos rfl], hwatts⟩
  · simp only [if_neg hon]
    exact ⟨u, (if_neg hpos).trans (if_neg hon), rfl, fun _ _ => rfl, rfl, rfl⟩

/-- An entry after a shed over a list: shed, or as it was. -/
theorem shedList_get {ls : List Load} (hnodup : ls.Nodup) (excess : Nat) (u : Sched) (m : Load) :
    (Sched.shedList ls excess u).entries.get m =
      if m ∈ ls ∧ isShed u ls excess m = true then shedEntry u.slotStarted (u.entries.get m) else u.entries.get m := by
  induction ls generalizing excess u with
  | nil => rfl
  | cons l ls ih =>
    obtain ⟨hl, hls⟩ := List.nodup_cons.1 hnodup
    obtain rfl | hx := Nat.eq_zero_or_pos excess
    · simp [shedList_zero, isShed_zero]
    obtain ⟨v, hshed, hstarted, hother, hself, -⟩ := shedList_cons u l ls hx
    rw [hshed, ih hls]
    by_cases hm : m = l
    · subst hm
      rw [if_neg fun h => hl h.1, hself, isShed_head u m ls hx]
      simp
    · rw [hother m hm, hstarted]
      by_cases hmem : m ∈ ls
      · simp [hmem, isShed_cons hl hother rfl hmem]
      · simp [hmem, hm]

/-- The entries shed come off current slot watts with the ratings with which the slot began (R107, R112). -/
theorem shedList_curW {ls : List Load} (hnodup : ls.Nodup) (excess : Nat) (u : Sched) :
    (Sched.shedList ls excess u).curW = u.curW - shedSum (·.slotRated) u ls excess := by
  induction ls generalizing excess u with
  | nil => rfl
  | cons l ls ih =>
    obtain ⟨hl, hls⟩ := List.nodup_cons.1 hnodup
    obtain rfl | hx := Nat.eq_zero_or_pos excess
    · rw [shedList_zero, shedSum_zero]; rfl
    obtain ⟨v, hshed, -, hother, -, hwatts⟩ := shedList_cons u l ls hx
    rw [hshed, ih hls, hwatts, Nat.sub_sub, shedSum_cons hl hother rfl, isShed_head u l ls hx]

/-- Where an entry that is on is not shed, those shed cover the excess. -/
theorem le_shedSum_ratedW {ls : List Load} (hnodup : ls.Nodup) (excess : Nat) (u : Sched) {m : Load} (hm : m ∈ ls)
    (hon : (u.entries.get m).on = true) (hnot : isShed u ls excess m = false) :
    excess ≤ shedSum (·.ratedW) u ls excess := by
  induction ls generalizing excess with
  | nil => cases hm
  | cons l ls ih =>
    obtain ⟨hl, hls⟩ := List.nodup_cons.1 hnodup
    obtain rfl | hx := Nat.eq_zero_or_pos excess
    · exact Nat.zero_le _
    have hhead := isShed_head u l ls hx
    obtain rfl | hmem := List.mem_cons.1 hm
    · rw [hhead, hon] at hnot
      cases hnot
    · have hother : ∀ k, k ≠ l → u.entries.get k = u.entries.get k := fun _ _ => rfl
      have hcovered := ih hls _ hmem ((isShed_cons hl hother rfl hmem).symm.trans hnot)
      rw [shedSum_cons hl hother rfl, hhead]
      omega

/-! ### BUDGET_RECOMPUTE (R112, R114) -/

/-- The order of the shed: BOILER first, RING last (R112). -/
abbrev shedOrder : List Load := [.boiler, .grill, .bottom, .top, .ring]

/-- The scheduler with the budget computed from the round, before its shed. -/
def computed (s : State) : Sched := s.sched.recompute s.meas.supplyW s.meas.latest.budget

/-- The supply power over the limit of the round. -/
def excessOf (s : State) : Nat := s.meas.supplyW - s.meas.latest.budget.limit

/-- What the scheduler leaves once it has taken the round. -/
def budgetRun (s : State) : State := budgetRound (budgetTaken s)

theorem exec_budgetRecompute {s : State} (h : s.meas.owed.budget = true) :
    exec .budgetRecompute s = .next (budgetRun s) := congrArg Host.Outcome.next (if_pos h)

section
variable (s : State)

theorem budgetRun_sched : (budgetRun s).sched = Sched.shedList shedOrder (excessOf s) (computed s) := rfl

theorem budgetRun_get (l : Load) :
    (budgetRun s).sched.entries.get l =
      if isShed s.sched shedOrder (excessOf s) l then shedEntry s.sched.slotStarted (s.sched.entries.get l)
      else s.sched.entries.get l := by
  have hget := shedList_get (ls := shedOrder) (by decide) (excessOf s) (computed s) l
  have hmem : l ∈ shedOrder := by cases l <;> decide
  rw [budgetRun_sched, hget]
  simp only [hmem, true_and]
  rfl

theorem budgetRun_on (l : Load) :
    loadOn (budgetRun s) l = (loadOn s l && !isShed s.sched shedOrder (excessOf s) l) := by
  unfold loadOn
  rw [budgetRun_get]
  cases hshed : isShed s.sched shedOrder (excessOf s) l
  · simp
  · simp [shedEntry_off]

/-- An entry went off exactly where it was shed. -/
theorem wentOff_eq (l : Load) :
    (loadOn s l && !loadOn (budgetRun s) l) = isShed s.sched shedOrder (excessOf s) l := by
  rw [budgetRun_on]
  cases hon : loadOn s l
  · simp [isShed_off (show (s.sched.entries.get l).on = false from hon)]
  · simp

/-- What the entries that went off come to, in the order of the shed or in position order. -/
theorem wentOff_sum (f : Entry → Nat) :
    (loadsInOrder.map fun m => if loadOn s m && !loadOn (budgetRun s) m then f (s.sched.entries.get m) else 0).sum =
      shedSum f s.sched shedOrder (excessOf s) := by
  have hperm : loadsInOrder.Perm shedOrder := by decide
  simp only [wentOff_eq]
  exact (hperm.map _).sum_eq

theorem budgetRun_curW : (budgetRun s).sched.curW = s.sched.curW - shedSum (·.slotRated) s.sched shedOrder (excessOf s) :=
  shedList_curW (ls := shedOrder) (by decide) (excessOf s) (computed s)

/-- A round's shed moves of an entry what R112 gives, and no more. -/
theorem budgetRun_entry (l : Load) :
    let e := (budgetRun s).sched.entries.get l
    e = { s.sched.entries.get l with on := e.on, remaining := e.remaining, granted := e.granted, sheds := e.sheds } := by
  simp only
  rw [budgetRun_get]
  split
  · unfold shedEntry
    split <;> rfl
  · rfl

/-- A supply power within the limit sheds nothing (R112). -/
theorem budgetRun_within (h : s.meas.supplyW ≤ s.meas.latest.budget.limit) : (budgetRun s).sched = computed s := by
  have hexcess : excessOf s = 0 := Nat.sub_eq_zero_of_le h
  rw [budgetRun_sched, hexcess, shedList_zero]

theorem budgetRun_sameExcept : SameExcept [.meas, .sched] s (budgetRun s) := fun b hb => by
  cases b <;> simp [Block.same, budgetRun, budgetRound, budgetTaken] at hb ⊢

/-- The watts of the entries before RING in the order of the shed take in those before any other. -/
theorem onWatts_before_le_ring (u : Sched) (l : Load) :
    onWatts u (shedOrder.takeWhile fun m => m ≠ l) ≤ onWatts u (shedOrder.takeWhile fun m => m ≠ .ring) := by
  have hsub : (shedOrder.takeWhile fun m => m ≠ l).Sublist (shedOrder.takeWhile fun m => m ≠ .ring) := by
    cases l <;> decide
  exact (hsub.map _).sum_le_sum fun _ _ => Nat.zero_le _

end

/-- The ECO cap (R114 step 4). -/
theorem eco_cap_eq (eco : Bool) (base : Nat) :
    (if eco = true ∧ base > 2000 then 2000 else base) = if eco then min base 2000 else base := by
  cases eco
  · simp
  · simp only [true_and, if_pos]
    split <;> omega

/-- Settles O47: the figures of the round's budget, and the shed entry by entry. -/
theorem budgetFollowsTheRound : Obligations.BudgetFollowsTheRound := by
  refine ⟨fun s howed => ⟨_, exec_budgetRecompute howed, ?figures⟩,
    fun s howed hstarted => ⟨_, exec_budgetRecompute howed, ?shed⟩⟩
  case figures =>
    obtain ⟨entries, curW, hsched⟩ := shedList_eq shedOrder (excessOf s) (computed s)
    rw [← budgetRun_sched] at hsched
    refine ⟨?foreign, ?computed, ?capped, ?inForce, ?measured, ?rest, budgetRun_entry s, fun hwithin => ?within, rfl,
      budgetRun_sameExcept s⟩
    case computed => rw [hsched]; exact eco_cap_eq _ _
    case within => rw [budgetRun_within s hwithin]; exact ⟨rfl, rfl⟩
    all_goals rw [hsched]; rfl
  case shed =>
    have hget := budgetRun_get s
    rw [hstarted] at hget
    have hwent : ∀ l, loadOn s l = true → (loadOn (budgetRun s) l = false ↔ isShed s.sched shedOrder (excessOf s) l = true) :=
      fun l hl => by simp [budgetRun_on, hl]
    refine ⟨fun l hl => ?_, fun l hl => ?_, fun l hl => ?_, ?_, fun l hl hoff => ?_, fun l hsame => ?_, fun hring hoff l => ?_⟩
    · rw [budgetRun_on, Bool.and_eq_true] at hl
      exact hl.1
    · rw [budgetRun_on, Bool.and_eq_true, Bool.not_eq_true'] at hl
      have hcovered := le_shedSum_ratedW (ls := shedOrder) (by decide) (excessOf s) s.sched (m := l) (by cases l <;> decide)
        hl.1 hl.2
      rw [wentOff_sum]
      exact Nat.sub_le_iff_le_add'.1 hcovered
    · rw [hwent l hl, isShed_iff]
      exact and_iff_right hl
    · rw [wentOff_sum]
      exact budgetRun_curW s
    · rw [hget, if_pos ((hwent l hl).1 hoff)]
      rfl
    · refine (hget l).trans (if_neg fun hshed => ?_)
      rw [← wentOff_eq, hsame] at hshed
      simp at hshed
    · refine Bool.eq_false_of_not_eq_true fun hl => ?_
      rw [budgetRun_on, Bool.and_eq_true, Bool.not_eq_true'] at hl
      have hcovered := (isShed_iff.1 ((hwent .ring hring).1 hoff)).2
      have hnot : isShed s.sched shedOrder (excessOf s) l = true :=
        isShed_iff.2 ⟨hl.1, (onWatts_before_le_ring s.sched l).trans_lt hcovered⟩
      rw [hl.2] at hnot
      cases hnot

end Sys2Proof.Machine.BudgetRound
end
